-- ==== Sys2Proof/Word.lean ====
section
/-!
DEFINITION. The two widths of the core: bytes (registers, memory cells, the ALU) and 16-bit words
(pairs, SP, PC, addresses). spec/00_scope.md R3, R4.
-/
namespace Sys2Proof

/-- An 8-bit value, `DATA_WIDTH` of spec/00_scope.md R3. -/
abbrev Byte := BitVec 8

/-- A 16-bit value, `ADDR_WIDTH` of spec/00_scope.md R3; its arithmetic is modulo 65536 (R4, `ADDR_WRAP`). -/
abbrev Word := BitVec 16

end Sys2Proof
end

