-- ==== Sys2Proof/Config.lean ====
section
/-!
DEFINITION. The parameters spec/00_scope.md R3 fixes, and the reset values of spec/10_state.md R24 in
one record (spec/93_implementation_defined.md U9). The spec leaves no value open, so there is no free value here.
-/
namespace Sys2Proof

/-- `MEM_SIZE`: the number of byte cells (spec/00_scope.md R3, spec/20_memory.md R30). -/
def Config.memSize : Nat := 65536

/-- `ESCAPE`: the byte that selects the prefixed table for the byte after it (spec/00_scope.md R3). -/
def Config.escapeByte : Byte := 0xCB

/-- `HIGH_PAGE`: the base of the offset-indexed stores (spec/00_scope.md R3, spec/41_load8.md R87, R88). -/
def Config.highPage : Word := 0xFF00

/-- What a cell that nothing has written since reset reads as: memory is allocated zero-filled
(spec/10_state.md R24). -/
def Config.resetCell : Byte := 0x00

/-- The register values the core is constructed with. -/
structure ResetValues where
  a : Byte
  f : Byte
  b : Byte
  c : Byte
  d : Byte
  e : Byte
  h : Byte
  l : Byte
  sp : Word
  pc : Word
  deriving DecidableEq, Repr

/-- `RESET_*` of spec/00_scope.md R3, the table of spec/10_state.md R24. -/
def Config.reset : ResetValues where
  a := 0x01
  f := 0xB0
  b := 0x00
  c := 0x13
  d := 0x00
  e := 0xD8
  h := 0x01
  l := 0x4D
  sp := 0xFFFE
  pc := 0x0000

end Sys2Proof
end

