-- ==== Sys2Proof/Machine/Bits.lean ====
section
/-!
DEFINITION. The bit-field, byte-order and sign-extension helpers of the rules' notation
(spec/00_scope.md R4).
-/
namespace Sys2Proof.Machine

/-- `v[15:8]`. -/
def hiByte (v : Word) : Byte := v.extractLsb' 8 8

/-- `v[7:0]`. -/
def loByte (v : Word) : Byte := v.extractLsb' 0 8

/-- `hi ++ lo`: the left operand is the most significant (R4). -/
def joinBytes (hi lo : Byte) : Word := hi ++ lo

/-- `zext_16`. -/
def zext16 (v : Byte) : Word := v.setWidth 16

/-- `sext_16`: v itself below 128, else v + 0xFF00 (R4). -/
def sext16 (v : Byte) : Word := if v.toNat < 128 then zext16 v else zext16 v + 0xFF00

end Sys2Proof.Machine
end

