-- ==== Sys2Proof/Machine/Flags.lean ====
section
/-!
DEFINITION. The flags register F (spec/10_state.md R12): four stored bits, its byte image, and the flag
computations of the instructions that write flags (spec/10_state.md R18).
-/
namespace Sys2Proof.Machine

/-- The four flags F stores; bits 3..0 of F are no storage (spec/10_state.md R12). -/
structure Flags where
  /-- zero, bit 7 of F -/
  z : Bool
  /-- subtract, bit 6 of F -/
  n : Bool
  /-- half-carry, bit 5 of F -/
  h : Bool
  /-- carry, bit 4 of F -/
  c : Bool
  deriving DecidableEq, Repr

/-- `x[F]` (R12): Z, N, H, C in bits 7..4, zero below. -/
def Flags.toByte (f : Flags) : Byte :=
  BitVec.ofBool f.z ++ BitVec.ofBool f.n ++ BitVec.ofBool f.h ++ BitVec.ofBool f.c ++ (0 : BitVec 4)

/-- `x[F] <- v` (R12): bits 7..4 are stored, bits 3..0 dropped. -/
def Flags.ofByte (v : Byte) : Flags where
  z := v.getLsbD 7
  n := v.getLsbD 6
  h := v.getLsbD 5
  c := v.getLsbD 4

/-- The 9-bit-wide sum of an 8-bit addition, an unbounded integer (spec/49_compare_add.md R124). -/
def addSum (a b : Byte) : Nat := a.toNat + b.toNat

/-- The carry out of bit 3: the sum of the low nibbles exceeds 0xF (R124). -/
def halfCarry (a b : Byte) : Bool := a.toNat % 16 + b.toNat % 16 > 0xF

/-- The flags `ADD A,r` writes (R124): Z from the wrapped result, N clear, H and C the carries out. -/
def addFlags (a b : Byte) : Flags where
  z := BitVec.ofNat 8 (addSum a b) == 0
  n := false
  h := halfCarry a b
  c := addSum a b > 0xFF

/-- The flags `XOR r` writes (spec/42_xor.md R95): Z from the result, the others clear. -/
def xorFlags (result : Byte) : Flags where
  z := result == 0
  n := false
  h := false
  c := false

/-- Only Z is written: `CP d8` (spec/49_compare_add.md R123) and `BIT n,r` (spec/43_bit_test.md R98). -/
def Flags.withZ (f : Flags) (z : Bool) : Flags := { f with z := z }

/-- Only Z and C are written: `RL r` (spec/48_rotate_left.md R120). -/
def Flags.withZC (f : Flags) (z c : Bool) : Flags := { f with z := z, c := c }

end Sys2Proof.Machine
end

