-- ==== Sys2Proof/Machine/State.lean ====
section
/-!
DEFINITION. The architectural state (spec/10_state.md R10: there is nothing else), its reset value
(R24), and the reasons a step or a host operation can stop.
-/
namespace Sys2Proof.Machine

/-- The memory (spec/10_state.md R21) in canonical form: the cells that differ from
`Config.resetCell`, addresses strictly rising (DESIGN CHOICE of the form, safe: log entry 8). -/
abbrev Memory := List Host.Cell

/-- Every piece of state spec/10_state.md R10 lists. -/
structure State where
  a : Byte
  b : Byte
  c : Byte
  d : Byte
  e : Byte
  h : Byte
  l : Byte
  f : Flags
  sp : Word
  pc : Word
  mem : Memory
  deriving DecidableEq, Repr

/-- Why a step stops. -/
inductive Fault where
  /-- Raised by the step whose opcode byte has no entry in the table it is looked up in
  (spec/60_exceptions.md R130): `addr` is the PC the step began with, `byte` the opcode byte,
  `prefixed` whether it was looked up in the prefixed table. The state stays as it was (R134).
  This is the core's own fault, so it is no departure: safe. -/
  | unimplementedOpcode (addr : Word) (byte : Byte) (prefixed : Bool)
  deriving DecidableEq, Repr

/-- Why the model gives no next state although the core raises no fault. -/
inductive Refusal where
  /-- Raised by `exec` alone, for an instruction that has no meaning yet; none is left. Safe. -/
  | notModelled (mnemonic : String)
  /-- Raised by `loadBootImage` alone, for an image of more than 65 536 bytes, which the spec rejects
  with the state unchanged (spec/70_reset_and_hazards.md R151). Safe: DESIGN CHOICE, log entry 7. -/
  | bootImageTooLong
  deriving DecidableEq, Repr

/-- The state after reset and before the boot image is loaded (spec/10_state.md R24,
spec/70_reset_and_hazards.md R150). -/
def State.reset : State where
  a := Config.reset.a
  b := Config.reset.b
  c := Config.reset.c
  d := Config.reset.d
  e := Config.reset.e
  h := Config.reset.h
  l := Config.reset.l
  f := Flags.ofByte Config.reset.f
  sp := Config.reset.sp
  pc := Config.reset.pc
  mem := []

end Sys2Proof.Machine
end

