-- ==== Sys2Proof/Syntax.lean ====
section
/-!
DEFINITION. The selectors of the register file and the instructions of the core: one constructor per
mnemonic of spec/opcode_table.json, spelled as the table's mnemonics are (`LD A,(HL)` is `ld_A_atHL`), so
that the two can be read side by side. A decoded instruction holds operand descriptors and no raw
bytes (spec/30_encoding.md R52): the executor reads the immediates (R54).
-/
namespace Sys2Proof

/-- The 8-bit selectors, `N_REG8` of spec/00_scope.md R3. -/
inductive Reg8 where
  | a | f | b | c | d | e | h | l
  deriving DecidableEq, Repr

/-- The 16-bit selectors, `N_REG16` of spec/00_scope.md R3. -/
inductive Reg16 where
  | af | bc | de | hl | sp | pc
  deriving DecidableEq, Repr

/-- The 8-bit register operands an instruction can name; never F (spec/10_state.md R23). -/
inductive Gpr where
  | b | c | d | e | h | l | a
  deriving DecidableEq, Repr

/-- The selector an 8-bit operand names. -/
def Gpr.sel : Gpr → Reg8
  | .b => .b
  | .c => .c
  | .d => .d
  | .e => .e
  | .h => .h
  | .l => .l
  | .a => .a

/-- The 16-bit operands of LD rr,d16, INC rr and DEC rr (spec/10_state.md R23). -/
inductive PairSp where
  | bc | de | hl | sp
  deriving DecidableEq, Repr

/-- The selector such an operand names. -/
def PairSp.sel : PairSp → Reg16
  | .bc => .bc
  | .de => .de
  | .hl => .hl
  | .sp => .sp

/-- The 16-bit operands of PUSH and POP (spec/10_state.md R23). -/
inductive PairAf where
  | bc | de | hl | af
  deriving DecidableEq, Repr

/-- The selector such an operand names. -/
def PairAf.sel : PairAf → Reg16
  | .bc => .bc
  | .de => .de
  | .hl => .hl
  | .af => .af

/-- The jump conditions (spec/30_encoding.md R53). -/
inductive Cond where
  | nz | z
  deriving DecidableEq, Repr

/-- The formats of spec/30_encoding.md R50, with the table's two marks for rows that are no format. -/
inductive Format where
  | op | opD8 | opE8 | opD16 | cbOp | escape | unmapped
  deriving DecidableEq, Repr

/-- The rows of spec/opcode_table.json. -/
inductive Instr where
  -- NOP (spec/40_noop_load16.md R70)
  | nop
  -- LD rr,d16 (spec/40_noop_load16.md R71)
  | ld_BC_d16 | ld_DE_d16 | ld_HL_d16 | ld_SP_d16
  -- LD SP,HL (spec/40_noop_load16.md R72)
  | ld_SP_HL
  -- LD r,r' (spec/41_load8.md R76)
  | ld_B_B | ld_B_C | ld_B_D | ld_B_E | ld_B_H | ld_B_L | ld_B_A | ld_C_B | ld_C_C | ld_C_D | ld_C_E | ld_C_H
  | ld_C_L | ld_C_A | ld_D_B | ld_D_C | ld_D_D | ld_D_E | ld_D_H | ld_D_L | ld_D_A | ld_E_B | ld_E_C | ld_E_D
  | ld_E_E | ld_E_H | ld_E_L | ld_E_A | ld_H_B | ld_H_C | ld_H_D | ld_H_E | ld_H_H | ld_H_L | ld_H_A | ld_L_B
  | ld_L_C | ld_L_D | ld_L_E | ld_L_H | ld_L_L | ld_L_A | ld_A_B | ld_A_C | ld_A_D | ld_A_E | ld_A_H | ld_A_L
  | ld_A_A
  -- LD r,d8 (spec/41_load8.md R77)
  | ld_B_d8 | ld_C_d8 | ld_D_d8 | ld_E_d8 | ld_H_d8 | ld_L_d8 | ld_A_d8
  -- LD r,(HL) (spec/41_load8.md R78)
  | ld_B_atHL | ld_C_atHL | ld_D_atHL | ld_E_atHL | ld_H_atHL | ld_L_atHL | ld_A_atHL
  -- LD (HL),r (spec/41_load8.md R79)
  | ld_atHL_B | ld_atHL_C | ld_atHL_D | ld_atHL_E | ld_atHL_H | ld_atHL_L | ld_atHL_A
  -- LD (HL),d8 (spec/41_load8.md R80)
  | ld_atHL_d8
  -- LD A,(BC) (spec/41_load8.md R81)
  | ld_A_atBC
  -- LD A,(DE) (spec/41_load8.md R82)
  | ld_A_atDE
  -- LD (BC),A (spec/41_load8.md R83)
  | ld_atBC_A
  -- LD (DE),A (spec/41_load8.md R84)
  | ld_atDE_A
  -- LD (HL+),A (spec/41_load8.md R85)
  | ld_atHLinc_A
  -- LD (HL-),A (spec/41_load8.md R86)
  | ld_atHLdec_A
  -- LD (C),A (spec/41_load8.md R87)
  | ld_atC_A
  -- LDH (a8),A (spec/41_load8.md R88)
  | ldh_a8_A
  -- LD (a16),A (spec/41_load8.md R89)
  | ld_a16_A
  -- XOR r (spec/42_xor.md R95)
  | xor_B | xor_C | xor_D | xor_E | xor_H | xor_L | xor_A
  -- BIT n,r (spec/43_bit_test.md R98)
  | bit_0_B | bit_0_C | bit_0_D | bit_0_E | bit_0_H | bit_0_L | bit_0_A | bit_1_B | bit_1_C | bit_1_D
  | bit_1_E | bit_1_H | bit_1_L | bit_1_A | bit_2_B | bit_2_C | bit_2_D | bit_2_E | bit_2_H | bit_2_L
  | bit_2_A | bit_3_B | bit_3_C | bit_3_D | bit_3_E | bit_3_H | bit_3_L | bit_3_A | bit_4_B | bit_4_C
  | bit_4_D | bit_4_E | bit_4_H | bit_4_L | bit_4_A | bit_5_B | bit_5_C | bit_5_D | bit_5_E | bit_5_H
  | bit_5_L | bit_5_A | bit_6_B | bit_6_C | bit_6_D | bit_6_E | bit_6_H | bit_6_L | bit_6_A | bit_7_B
  | bit_7_C | bit_7_D | bit_7_E | bit_7_H | bit_7_L | bit_7_A
  -- JR NZ,e8 (spec/44_jump_relative.md R101)
  | jr_NZ
  -- JR Z,e8 (spec/44_jump_relative.md R102)
  | jr_Z
  -- INC r (spec/45_inc_dec.md R105)
  | inc_B | inc_C | inc_D | inc_E | inc_H | inc_L | inc_A
  -- DEC r (spec/45_inc_dec.md R106)
  | dec_B | dec_C | dec_D | dec_E | dec_H | dec_L | dec_A
  -- INC rr (spec/45_inc_dec.md R107)
  | inc_BC | inc_DE | inc_HL | inc_SP
  -- DEC rr (spec/45_inc_dec.md R108)
  | dec_BC | dec_DE | dec_HL | dec_SP
  -- CALL a16 (spec/46_call_return.md R110)
  | call_a16
  -- RET (spec/46_call_return.md R111)
  | ret
  -- PUSH rr (spec/47_push_pop.md R115)
  | push_BC | push_DE | push_HL | push_AF
  -- POP rr (spec/47_push_pop.md R116)
  | pop_BC | pop_DE | pop_HL | pop_AF
  -- RL r (spec/48_rotate_left.md R120)
  | rl_B | rl_C | rl_D | rl_E | rl_H | rl_L | rl_A
  -- CP d8 (spec/49_compare_add.md R123)
  | cp_d8
  -- ADD A,r (spec/49_compare_add.md R124)
  | add_A_B | add_A_C | add_A_D | add_A_E | add_A_H | add_A_L | add_A_A
  -- the escape byte (spec/30_encoding.md R51)
  /-- The row `PREFIX_CB`: the escape byte in opcode position; the byte after it is the opcode, looked up
  in the prefixed table (R51). DESIGN CHOICE, safe: log entry 2. -/
  | escape
  -- the unmapped rows (spec/60_exceptions.md R130)
  /-- An opcode byte with no entry in the table it is looked up in. DESIGN CHOICE, safe: log entry 3. -/
  | unmapped (op : Byte) (prefixed : Bool)
  deriving DecidableEq, Repr

end Sys2Proof
end

