-- ==== Sys2Proof/Machine/Ops.lean ====
section
/-!
DEFINITION. The named operations over memory and registers: the primitives of spec/00_scope.md R5, the
stack primitives of spec/47_push_pop.md R117, and raising the one fault (spec/60_exceptions.md R130, R134).
-/
namespace Sys2Proof.Machine

/-- What one step or one host operation answers. -/
abbrev Result := Host.Outcome State Fault Refusal

/-- The cell at an address; an unlisted one holds its reset value. -/
def Memory.cell : Memory → Nat → Byte
  | [], _ => Config.resetCell
  | (k, v) :: m, a => if k = a then v else Memory.cell m a

/-- The cells a value at an address needs listed: none if it is what an unlisted cell reads as. -/
def Memory.entry (a : Nat) (v : Byte) : Memory := if v = Config.resetCell then [] else [(a, v)]

/-- Set one cell and keep the canonical form. -/
def Memory.store : Memory → Nat → Byte → Memory
  | [], a, v => Memory.entry a v
  | (k, w) :: m, a, v =>
    if a < k then Memory.entry a v ++ (k, w) :: m
    else if a = k then Memory.entry a v ++ m
    else (k, w) :: Memory.store m a v

/-- Set successive cells from an address upward (spec/70_reset_and_hazards.md R151). -/
def Memory.storeAll : Memory → Nat → List Byte → Memory
  | m, _, [] => m
  | m, a, v :: vs => Memory.storeAll (Memory.store m a v) (a + 1) vs

/-- The canonical form: addresses below 65 536 and strictly rising, no cell listed that reads as an
unlisted one does. -/
def Memory.wf : Memory → Bool
  | [] => true
  | (k, v) :: m =>
    decide (k < Config.memSize) && decide (v ≠ Config.resetCell) && m.all (fun cell => decide (k < cell.1))
      && Memory.wf m

/-- `MemRead(addr, 1)` (spec/20_memory.md R31). -/
def State.read (s : State) (addr : Word) : Byte := Memory.cell s.mem addr.toNat

/-- `MemRead(addr, 2)` (spec/20_memory.md R32): the low byte at `addr`, the high byte at `addr + 1`. -/
def State.readWord (s : State) (addr : Word) : Word := joinBytes (s.read (addr + 1)) (s.read addr)

/-- `MemWrite(addr, 1, v)` (spec/20_memory.md R33). -/
def State.write (s : State) (addr : Word) (v : Byte) : State := { s with mem := Memory.store s.mem addr.toNat v }

/-- `MemWrite(addr, 2, v)` (spec/20_memory.md R33): low byte first. No instruction uses it. -/
def State.writeWord (s : State) (addr v : Word) : State := (s.write addr (loByte v)).write (addr + 1) (hiByte v)

/-- `pc <- target` (spec/30_encoding.md R59). -/
def State.setPc (s : State) (target : Word) : State := { s with pc := target }

/-- `sp <- v` (spec/10_state.md R15). -/
def State.setSp (s : State) (v : Word) : State := { s with sp := v }

/-- Write the flags register. -/
def State.setFlags (s : State) (f : Flags) : State := { s with f := f }

/-- `x[r]` (spec/10_state.md R11, R12). -/
def State.get8 (s : State) : Reg8 → Byte
  | .a => s.a
  | .f => s.f.toByte
  | .b => s.b
  | .c => s.c
  | .d => s.d
  | .e => s.e
  | .h => s.h
  | .l => s.l

/-- `x[r] <- v` (spec/10_state.md R11, R12). -/
def State.set8 (s : State) (r : Reg8) (v : Byte) : State :=
  match r with
  | .a => { s with a := v }
  | .f => { s with f := Flags.ofByte v }
  | .b => { s with b := v }
  | .c => { s with c := v }
  | .d => { s with d := v }
  | .e => { s with e := v }
  | .h => { s with h := v }
  | .l => { s with l := v }

/-- `xx[p]` (spec/10_state.md R13 to R16): the pairs are the high byte and the low byte. -/
def State.get16 (s : State) : Reg16 → Word
  | .af => joinBytes (s.get8 .a) (s.get8 .f)
  | .bc => joinBytes (s.get8 .b) (s.get8 .c)
  | .de => joinBytes (s.get8 .d) (s.get8 .e)
  | .hl => joinBytes (s.get8 .h) (s.get8 .l)
  | .sp => s.sp
  | .pc => s.pc

/-- `xx[p] <- v` (spec/10_state.md R13 to R16). -/
def State.set16 (s : State) (p : Reg16) (v : Word) : State :=
  match p with
  | .af => (s.set8 .a (hiByte v)).set8 .f (loByte v)
  | .bc => (s.set8 .b (hiByte v)).set8 .c (loByte v)
  | .de => (s.set8 .d (hiByte v)).set8 .e (loByte v)
  | .hl => (s.set8 .h (hiByte v)).set8 .l (loByte v)
  | .sp => s.setSp v
  | .pc => s.setPc v

/-- A general register operand of an instruction (spec/10_state.md R23). -/
def State.reg (s : State) (r : Gpr) : Byte := s.get8 r.sel

/-- Write a general register operand. -/
def State.setReg (s : State) (r : Gpr) (v : Byte) : State := s.set8 r.sel v

/-- One byte of a push (spec/47_push_pop.md R117): SP is decremented before the byte is written. -/
def State.pushByte (s : State) (v : Byte) : State := (s.setSp (s.sp - 1)).write (s.sp - 1) v

/-- `Push16(v)` (spec/47_push_pop.md R117): the high byte, then the low byte. -/
def State.push16 (s : State) (v : Word) : State := (s.pushByte (hiByte v)).pushByte (loByte v)

/-- One byte of a pop (spec/47_push_pop.md R117): the byte at SP, and SP is incremented after it. -/
def State.popByte (s : State) : Byte × State := (s.read s.sp, s.setSp (s.sp + 1))

/-- `Pop16()` (spec/47_push_pop.md R117): the low byte, then the high byte. -/
def State.pop16 (s : State) : Word × State :=
  let (lo, s₁) := s.popByte
  let (hi, s₂) := s₁.popByte
  (joinBytes hi lo, s₂)

/-- Taking the core's one exception (spec/60_exceptions.md R130, R134): there is no handler, no saved
register and no vector; the step answers the fault to the host with the PC the step began with, and no
state is changed (DEDUCED, safe: log entry 1). There is no return from it (R135). -/
def State.raiseUnimplemented (s : State) (byte : Byte) (prefixed : Bool) : Result :=
  .fault (.unimplementedOpcode s.pc byte prefixed)

end Sys2Proof.Machine
end

