-- ==== Sys2Proof/Machine/Boot.lean ====
section
/-!
DEFINITION. The host's boot-image load (spec/70_reset_and_hazards.md R151, R153).
-/
namespace Sys2Proof.Machine

/-- `LoadBootImage(bytes)` (R151): the bytes are copied to address 0 upward and no register changes; an
image longer than the memory is rejected with the state unchanged. The host calls it at most once,
after reset and before the first step (R153), which is the host's duty and not checked here
(DESIGN CHOICE, safe: log entry 7). -/
def loadBootImage (image : List Byte) (s : State) : Result :=
  if image.length > Config.memSize then .refused .bootImageTooLong
  else .next { s with mem := Memory.storeAll s.mem 0 image }

end Sys2Proof.Machine
end

