-- ==== Sys2Proof/Machine/Operands.lean ====
section
/-!
DEFINITION. The operand forms: the address of the opcode byte, the immediates the executor reads
(spec/30_encoding.md R54), the page at 0xFF00, and the jump conditions. An instruction applied where other
bytes stand at PC reads those bytes (DEDUCED, safe: log entry 4).
-/
namespace Sys2Proof.Machine

/-- `opaddr` (spec/30_encoding.md R51): PC, or the byte after the prefix for a prefixed instruction. -/
def State.opaddr (s : State) (prefixed : Bool) : Word := if prefixed then s.pc + 1 else s.pc

/-- The one-byte immediate `d8`, `a8` or `e8` (R54). -/
def State.imm8 (s : State) (opaddr : Word) : Byte := s.read (opaddr + 1)

/-- The two-byte immediate `d16` or `a16` (R54), little-endian. -/
def State.imm16 (s : State) (opaddr : Word) : Word := s.readWord (opaddr + 1)

/-- `0xFF00 + offset` (spec/41_load8.md R87, R88): the offset is unsigned. -/
def highAddr (offset : Byte) : Word := Config.highPage + zext16 offset

/-- Whether a jump condition holds of the flags (spec/44_jump_relative.md R101, R102). -/
def condHolds (cc : Cond) (f : Flags) : Bool :=
  match cc with
  | .nz => !f.z
  | .z => f.z

end Sys2Proof.Machine
end

