-- ==== Sys2Proof/Machine/BitTest.lean ====
section
/-!
DEFINITION. The bit test (spec/43_bit_test.md). Each shared operation takes the
address of the opcode byte, as the rules' pseudocode does; one meaning per instruction follows.
-/
namespace Sys2Proof.Machine

/-- `BIT n,r` (R98): Z is the complement of the bit. -/
def bitTest (n : Fin 8) (r : Gpr) (opaddr : Word) (s : State) : State :=
  (s.setFlags (s.f.withZ (!(s.reg r).getLsbD n))).setPc (opaddr + 1)

/-- `BIT 0,B`, prefixed 0x40 (R98). -/
def execBit_0_B (s : State) : Result := .next (bitTest 0 .b (s.opaddr true) s)

/-- `BIT 0,C`, prefixed 0x41 (R98). -/
def execBit_0_C (s : State) : Result := .next (bitTest 0 .c (s.opaddr true) s)

/-- `BIT 0,D`, prefixed 0x42 (R98). -/
def execBit_0_D (s : State) : Result := .next (bitTest 0 .d (s.opaddr true) s)

/-- `BIT 0,E`, prefixed 0x43 (R98). -/
def execBit_0_E (s : State) : Result := .next (bitTest 0 .e (s.opaddr true) s)

/-- `BIT 0,H`, prefixed 0x44 (R98). -/
def execBit_0_H (s : State) : Result := .next (bitTest 0 .h (s.opaddr true) s)

/-- `BIT 0,L`, prefixed 0x45 (R98). -/
def execBit_0_L (s : State) : Result := .next (bitTest 0 .l (s.opaddr true) s)

/-- `BIT 0,A`, prefixed 0x47 (R98). -/
def execBit_0_A (s : State) : Result := .next (bitTest 0 .a (s.opaddr true) s)

/-- `BIT 1,B`, prefixed 0x48 (R98). -/
def execBit_1_B (s : State) : Result := .next (bitTest 1 .b (s.opaddr true) s)

/-- `BIT 1,C`, prefixed 0x49 (R98). -/
def execBit_1_C (s : State) : Result := .next (bitTest 1 .c (s.opaddr true) s)

/-- `BIT 1,D`, prefixed 0x4A (R98). -/
def execBit_1_D (s : State) : Result := .next (bitTest 1 .d (s.opaddr true) s)

/-- `BIT 1,E`, prefixed 0x4B (R98). -/
def execBit_1_E (s : State) : Result := .next (bitTest 1 .e (s.opaddr true) s)

/-- `BIT 1,H`, prefixed 0x4C (R98). -/
def execBit_1_H (s : State) : Result := .next (bitTest 1 .h (s.opaddr true) s)

/-- `BIT 1,L`, prefixed 0x4D (R98). -/
def execBit_1_L (s : State) : Result := .next (bitTest 1 .l (s.opaddr true) s)

/-- `BIT 1,A`, prefixed 0x4F (R98). -/
def execBit_1_A (s : State) : Result := .next (bitTest 1 .a (s.opaddr true) s)

/-- `BIT 2,B`, prefixed 0x50 (R98). -/
def execBit_2_B (s : State) : Result := .next (bitTest 2 .b (s.opaddr true) s)

/-- `BIT 2,C`, prefixed 0x51 (R98). -/
def execBit_2_C (s : State) : Result := .next (bitTest 2 .c (s.opaddr true) s)

/-- `BIT 2,D`, prefixed 0x52 (R98). -/
def execBit_2_D (s : State) : Result := .next (bitTest 2 .d (s.opaddr true) s)

/-- `BIT 2,E`, prefixed 0x53 (R98). -/
def execBit_2_E (s : State) : Result := .next (bitTest 2 .e (s.opaddr true) s)

/-- `BIT 2,H`, prefixed 0x54 (R98). -/
def execBit_2_H (s : State) : Result := .next (bitTest 2 .h (s.opaddr true) s)

/-- `BIT 2,L`, prefixed 0x55 (R98). -/
def execBit_2_L (s : State) : Result := .next (bitTest 2 .l (s.opaddr true) s)

/-- `BIT 2,A`, prefixed 0x57 (R98). -/
def execBit_2_A (s : State) : Result := .next (bitTest 2 .a (s.opaddr true) s)

/-- `BIT 3,B`, prefixed 0x58 (R98). -/
def execBit_3_B (s : State) : Result := .next (bitTest 3 .b (s.opaddr true) s)

/-- `BIT 3,C`, prefixed 0x59 (R98). -/
def execBit_3_C (s : State) : Result := .next (bitTest 3 .c (s.opaddr true) s)

/-- `BIT 3,D`, prefixed 0x5A (R98). -/
def execBit_3_D (s : State) : Result := .next (bitTest 3 .d (s.opaddr true) s)

/-- `BIT 3,E`, prefixed 0x5B (R98). -/
def execBit_3_E (s : State) : Result := .next (bitTest 3 .e (s.opaddr true) s)

/-- `BIT 3,H`, prefixed 0x5C (R98). -/
def execBit_3_H (s : State) : Result := .next (bitTest 3 .h (s.opaddr true) s)

/-- `BIT 3,L`, prefixed 0x5D (R98). -/
def execBit_3_L (s : State) : Result := .next (bitTest 3 .l (s.opaddr true) s)

/-- `BIT 3,A`, prefixed 0x5F (R98). -/
def execBit_3_A (s : State) : Result := .next (bitTest 3 .a (s.opaddr true) s)

/-- `BIT 4,B`, prefixed 0x60 (R98). -/
def execBit_4_B (s : State) : Result := .next (bitTest 4 .b (s.opaddr true) s)

/-- `BIT 4,C`, prefixed 0x61 (R98). -/
def execBit_4_C (s : State) : Result := .next (bitTest 4 .c (s.opaddr true) s)

/-- `BIT 4,D`, prefixed 0x62 (R98). -/
def execBit_4_D (s : State) : Result := .next (bitTest 4 .d (s.opaddr true) s)

/-- `BIT 4,E`, prefixed 0x63 (R98). -/
def execBit_4_E (s : State) : Result := .next (bitTest 4 .e (s.opaddr true) s)

/-- `BIT 4,H`, prefixed 0x64 (R98). -/
def execBit_4_H (s : State) : Result := .next (bitTest 4 .h (s.opaddr true) s)

/-- `BIT 4,L`, prefixed 0x65 (R98). -/
def execBit_4_L (s : State) : Result := .next (bitTest 4 .l (s.opaddr true) s)

/-- `BIT 4,A`, prefixed 0x67 (R98). -/
def execBit_4_A (s : State) : Result := .next (bitTest 4 .a (s.opaddr true) s)

/-- `BIT 5,B`, prefixed 0x68 (R98). -/
def execBit_5_B (s : State) : Result := .next (bitTest 5 .b (s.opaddr true) s)

/-- `BIT 5,C`, prefixed 0x69 (R98). -/
def execBit_5_C (s : State) : Result := .next (bitTest 5 .c (s.opaddr true) s)

/-- `BIT 5,D`, prefixed 0x6A (R98). -/
def execBit_5_D (s : State) : Result := .next (bitTest 5 .d (s.opaddr true) s)

/-- `BIT 5,E`, prefixed 0x6B (R98). -/
def execBit_5_E (s : State) : Result := .next (bitTest 5 .e (s.opaddr true) s)

/-- `BIT 5,H`, prefixed 0x6C (R98). -/
def execBit_5_H (s : State) : Result := .next (bitTest 5 .h (s.opaddr true) s)

/-- `BIT 5,L`, prefixed 0x6D (R98). -/
def execBit_5_L (s : State) : Result := .next (bitTest 5 .l (s.opaddr true) s)

/-- `BIT 5,A`, prefixed 0x6F (R98). -/
def execBit_5_A (s : State) : Result := .next (bitTest 5 .a (s.opaddr true) s)

/-- `BIT 6,B`, prefixed 0x70 (R98). -/
def execBit_6_B (s : State) : Result := .next (bitTest 6 .b (s.opaddr true) s)

/-- `BIT 6,C`, prefixed 0x71 (R98). -/
def execBit_6_C (s : State) : Result := .next (bitTest 6 .c (s.opaddr true) s)

/-- `BIT 6,D`, prefixed 0x72 (R98). -/
def execBit_6_D (s : State) : Result := .next (bitTest 6 .d (s.opaddr true) s)

/-- `BIT 6,E`, prefixed 0x73 (R98). -/
def execBit_6_E (s : State) : Result := .next (bitTest 6 .e (s.opaddr true) s)

/-- `BIT 6,H`, prefixed 0x74 (R98). -/
def execBit_6_H (s : State) : Result := .next (bitTest 6 .h (s.opaddr true) s)

/-- `BIT 6,L`, prefixed 0x75 (R98). -/
def execBit_6_L (s : State) : Result := .next (bitTest 6 .l (s.opaddr true) s)

/-- `BIT 6,A`, prefixed 0x77 (R98). -/
def execBit_6_A (s : State) : Result := .next (bitTest 6 .a (s.opaddr true) s)

/-- `BIT 7,B`, prefixed 0x78 (R98). -/
def execBit_7_B (s : State) : Result := .next (bitTest 7 .b (s.opaddr true) s)

/-- `BIT 7,C`, prefixed 0x79 (R98). -/
def execBit_7_C (s : State) : Result := .next (bitTest 7 .c (s.opaddr true) s)

/-- `BIT 7,D`, prefixed 0x7A (R98). -/
def execBit_7_D (s : State) : Result := .next (bitTest 7 .d (s.opaddr true) s)

/-- `BIT 7,E`, prefixed 0x7B (R98). -/
def execBit_7_E (s : State) : Result := .next (bitTest 7 .e (s.opaddr true) s)

/-- `BIT 7,H`, prefixed 0x7C (R98). -/
def execBit_7_H (s : State) : Result := .next (bitTest 7 .h (s.opaddr true) s)

/-- `BIT 7,L`, prefixed 0x7D (R98). -/
def execBit_7_L (s : State) : Result := .next (bitTest 7 .l (s.opaddr true) s)

/-- `BIT 7,A`, prefixed 0x7F (R98). -/
def execBit_7_A (s : State) : Result := .next (bitTest 7 .a (s.opaddr true) s)

end Sys2Proof.Machine
end

