-- ==== Sys2Proof/Machine/CallReturn.lean ====
section
/-!
DEFINITION. Call and return (spec/46_call_return.md). Each shared operation takes the
address of the opcode byte, as the rules' pseudocode does; one meaning per instruction follows.
-/
namespace Sys2Proof.Machine

/-- `CALL a16` (R110): the target is read before the push; the address of the next instruction is pushed. -/
def callAbs (opaddr : Word) (s : State) : State := (s.push16 (opaddr + 3)).setPc (s.imm16 opaddr)

/-- `RET` (R111): the popped value is used exactly; `opaddr` does not enter. -/
def returnFromCall (_opaddr : Word) (s : State) : State :=
  let (target, t) := s.pop16
  t.setPc target

/-- `CALL a16`, 0xCD (R110). -/
def execCall_a16 (s : State) : Result := .next (callAbs (s.opaddr false) s)

/-- `RET`, 0xC9 (R111). -/
def execRet (s : State) : Result := .next (returnFromCall (s.opaddr false) s)

end Sys2Proof.Machine
end

