-- ==== Sys2Proof/Machine/CompareAdd.lean ====
section
/-!
DEFINITION. Compare and add (spec/49_compare_add.md). Each shared operation takes the
address of the opcode byte, as the rules' pseudocode does; one meaning per instruction follows.
-/
namespace Sys2Proof.Machine

/-- `CP d8` (R123): an equality test; A is not written. -/
def compareImm (opaddr : Word) (s : State) : State :=
  (s.setFlags (s.f.withZ (s.imm8 opaddr == s.reg .a))).setPc (opaddr + 2)

/-- `ADD A,r` (R124): both operands are read before A is written. -/
def addA (r : Gpr) (opaddr : Word) (s : State) : State :=
  let a := s.reg .a
  let b := s.reg r
  ((s.setReg .a (BitVec.ofNat 8 (addSum a b))).setFlags (addFlags a b)).setPc (opaddr + 1)

/-- `CP d8`, 0xFE (R123). -/
def execCp_d8 (s : State) : Result := .next (compareImm (s.opaddr false) s)

/-- `ADD A,B`, 0x80 (R124). -/
def execAdd_A_B (s : State) : Result := .next (addA .b (s.opaddr false) s)

/-- `ADD A,C`, 0x81 (R124). -/
def execAdd_A_C (s : State) : Result := .next (addA .c (s.opaddr false) s)

/-- `ADD A,D`, 0x82 (R124). -/
def execAdd_A_D (s : State) : Result := .next (addA .d (s.opaddr false) s)

/-- `ADD A,E`, 0x83 (R124). -/
def execAdd_A_E (s : State) : Result := .next (addA .e (s.opaddr false) s)

/-- `ADD A,H`, 0x84 (R124). -/
def execAdd_A_H (s : State) : Result := .next (addA .h (s.opaddr false) s)

/-- `ADD A,L`, 0x85 (R124). -/
def execAdd_A_L (s : State) : Result := .next (addA .l (s.opaddr false) s)

/-- `ADD A,A`, 0x87 (R124). -/
def execAdd_A_A (s : State) : Result := .next (addA .a (s.opaddr false) s)

end Sys2Proof.Machine
end

