-- ==== Sys2Proof/Machine/IncDec.lean ====
section
/-!
DEFINITION. Increment and decrement (spec/45_inc_dec.md): no flag is written. Each shared operation takes the
address of the opcode byte, as the rules' pseudocode does; one meaning per instruction follows.
-/
namespace Sys2Proof.Machine

/-- `INC r` (R105). -/
def incReg8 (r : Gpr) (opaddr : Word) (s : State) : State := (s.setReg r (s.reg r + 1)).setPc (opaddr + 1)

/-- `DEC r` (R106). -/
def decReg8 (r : Gpr) (opaddr : Word) (s : State) : State := (s.setReg r (s.reg r - 1)).setPc (opaddr + 1)

/-- `INC rr` (R107). -/
def incReg16 (rr : PairSp) (opaddr : Word) (s : State) : State :=
  (s.set16 rr.sel (s.get16 rr.sel + 1)).setPc (opaddr + 1)

/-- `DEC rr` (R108). -/
def decReg16 (rr : PairSp) (opaddr : Word) (s : State) : State :=
  (s.set16 rr.sel (s.get16 rr.sel - 1)).setPc (opaddr + 1)

/-- `INC B`, 0x04 (R105). -/
def execInc_B (s : State) : Result := .next (incReg8 .b (s.opaddr false) s)

/-- `INC C`, 0x0C (R105). -/
def execInc_C (s : State) : Result := .next (incReg8 .c (s.opaddr false) s)

/-- `INC D`, 0x14 (R105). -/
def execInc_D (s : State) : Result := .next (incReg8 .d (s.opaddr false) s)

/-- `INC E`, 0x1C (R105). -/
def execInc_E (s : State) : Result := .next (incReg8 .e (s.opaddr false) s)

/-- `INC H`, 0x24 (R105). -/
def execInc_H (s : State) : Result := .next (incReg8 .h (s.opaddr false) s)

/-- `INC L`, 0x2C (R105). -/
def execInc_L (s : State) : Result := .next (incReg8 .l (s.opaddr false) s)

/-- `INC A`, 0x3C (R105). -/
def execInc_A (s : State) : Result := .next (incReg8 .a (s.opaddr false) s)

/-- `DEC B`, 0x05 (R106). -/
def execDec_B (s : State) : Result := .next (decReg8 .b (s.opaddr false) s)

/-- `DEC C`, 0x0D (R106). -/
def execDec_C (s : State) : Result := .next (decReg8 .c (s.opaddr false) s)

/-- `DEC D`, 0x15 (R106). -/
def execDec_D (s : State) : Result := .next (decReg8 .d (s.opaddr false) s)

/-- `DEC E`, 0x1D (R106). -/
def execDec_E (s : State) : Result := .next (decReg8 .e (s.opaddr false) s)

/-- `DEC H`, 0x25 (R106). -/
def execDec_H (s : State) : Result := .next (decReg8 .h (s.opaddr false) s)

/-- `DEC L`, 0x2D (R106). -/
def execDec_L (s : State) : Result := .next (decReg8 .l (s.opaddr false) s)

/-- `DEC A`, 0x3D (R106). -/
def execDec_A (s : State) : Result := .next (decReg8 .a (s.opaddr false) s)

/-- `INC BC`, 0x03 (R107). -/
def execInc_BC (s : State) : Result := .next (incReg16 .bc (s.opaddr false) s)

/-- `INC DE`, 0x13 (R107). -/
def execInc_DE (s : State) : Result := .next (incReg16 .de (s.opaddr false) s)

/-- `INC HL`, 0x23 (R107). -/
def execInc_HL (s : State) : Result := .next (incReg16 .hl (s.opaddr false) s)

/-- `INC SP`, 0x33 (R107). -/
def execInc_SP (s : State) : Result := .next (incReg16 .sp (s.opaddr false) s)

/-- `DEC BC`, 0x0B (R108). -/
def execDec_BC (s : State) : Result := .next (decReg16 .bc (s.opaddr false) s)

/-- `DEC DE`, 0x1B (R108). -/
def execDec_DE (s : State) : Result := .next (decReg16 .de (s.opaddr false) s)

/-- `DEC HL`, 0x2B (R108). -/
def execDec_HL (s : State) : Result := .next (decReg16 .hl (s.opaddr false) s)

/-- `DEC SP`, 0x3B (R108). -/
def execDec_SP (s : State) : Result := .next (decReg16 .sp (s.opaddr false) s)

end Sys2Proof.Machine
end

