-- ==== Sys2Proof/Machine/Jump.lean ====
section
/-!
DEFINITION. The conditional relative jumps (spec/44_jump_relative.md). Each shared operation takes the
address of the opcode byte, as the rules' pseudocode does; one meaning per instruction follows.
-/
namespace Sys2Proof.Machine

/-- `JR cc,e8` (R100): relative to the address of the following instruction. -/
def jumpRelative (cc : Cond) (opaddr : Word) (s : State) : State :=
  s.setPc (if condHolds cc s.f then opaddr + 2 + sext16 (s.imm8 opaddr) else opaddr + 2)

/-- `JR NZ,e8`, 0x20 (R101). -/
def execJr_NZ (s : State) : Result := .next (jumpRelative .nz (s.opaddr false) s)

/-- `JR Z,e8`, 0x28 (R102). -/
def execJr_Z (s : State) : Result := .next (jumpRelative .z (s.opaddr false) s)

end Sys2Proof.Machine
end

