-- ==== Sys2Proof/Machine/Load16.lean ====
section
/-!
DEFINITION. The no-op and the 16-bit loads (spec/40_noop_load16.md). Each shared operation takes the
address of the opcode byte, as the rules' pseudocode does; one meaning per instruction follows.
-/
namespace Sys2Proof.Machine

/-- `NOP` (R70). -/
def noOperation (opaddr : Word) (s : State) : State := s.setPc (opaddr + 1)

/-- `LD rr,d16` (R71). -/
def loadPairImm (rr : PairSp) (opaddr : Word) (s : State) : State :=
  (s.set16 rr.sel (s.imm16 opaddr)).setPc (opaddr + 3)

/-- `LD SP,HL` (R72). -/
def loadSpFromHl (opaddr : Word) (s : State) : State := (s.set16 .sp (s.get16 .hl)).setPc (opaddr + 1)

/-- `NOP`, 0x00 (R70). -/
def execNop (s : State) : Result := .next (noOperation (s.opaddr false) s)

/-- `LD BC,d16`, 0x01 (R71). -/
def execLd_BC_d16 (s : State) : Result := .next (loadPairImm .bc (s.opaddr false) s)

/-- `LD DE,d16`, 0x11 (R71). -/
def execLd_DE_d16 (s : State) : Result := .next (loadPairImm .de (s.opaddr false) s)

/-- `LD HL,d16`, 0x21 (R71). -/
def execLd_HL_d16 (s : State) : Result := .next (loadPairImm .hl (s.opaddr false) s)

/-- `LD SP,d16`, 0x31 (R71). -/
def execLd_SP_d16 (s : State) : Result := .next (loadPairImm .sp (s.opaddr false) s)

/-- `LD SP,HL`, 0xF9 (R72). -/
def execLd_SP_HL (s : State) : Result := .next (loadSpFromHl (s.opaddr false) s)

end Sys2Proof.Machine
end

