-- ==== Sys2Proof/Machine/Load8.lean ====
section
/-!
DEFINITION. The 8-bit loads (spec/41_load8.md R75: the source is evaluated before the target is written). Each shared operation takes the
address of the opcode byte, as the rules' pseudocode does; one meaning per instruction follows.
-/
namespace Sys2Proof.Machine

/-- `LD r,r'` (R76). -/
def loadRegReg (r r' : Gpr) (opaddr : Word) (s : State) : State := (s.setReg r (s.reg r')).setPc (opaddr + 1)

/-- `LD r,d8` (R77). -/
def loadRegImm (r : Gpr) (opaddr : Word) (s : State) : State := (s.setReg r (s.imm8 opaddr)).setPc (opaddr + 2)

/-- `LD r,(HL)`, `LD A,(BC)`, `LD A,(DE)` (R78, R81, R82): the address is the pair before the write. -/
def loadRegMem (r : Gpr) (p : Reg16) (opaddr : Word) (s : State) : State :=
  (s.setReg r (s.read (s.get16 p))).setPc (opaddr + 1)

/-- `LD (HL),r`, `LD (BC),A`, `LD (DE),A` (R79, R83, R84). -/
def storeRegMem (p : Reg16) (r : Gpr) (opaddr : Word) (s : State) : State :=
  (s.write (s.get16 p) (s.reg r)).setPc (opaddr + 1)

/-- `LD (HL),d8` (R80). -/
def storeImmHl (opaddr : Word) (s : State) : State := (s.write (s.get16 .hl) (s.imm8 opaddr)).setPc (opaddr + 2)

/-- `LD (HL+),A` and `LD (HL-),A` (R85, R86): store at HL, then add `delta` to HL. -/
def storeAHlStep (delta : Word) (opaddr : Word) (s : State) : State :=
  ((s.write (s.get16 .hl) (s.reg .a)).set16 .hl (s.get16 .hl + delta)).setPc (opaddr + 1)

/-- `LD (C),A` (R87). -/
def storeAHighC (opaddr : Word) (s : State) : State := (s.write (highAddr (s.reg .c)) (s.reg .a)).setPc (opaddr + 1)

/-- `LDH (a8),A` (R88). -/
def storeAHighImm (opaddr : Word) (s : State) : State :=
  (s.write (highAddr (s.imm8 opaddr)) (s.reg .a)).setPc (opaddr + 2)

/-- `LD (a16),A` (R89). -/
def storeAAbs (opaddr : Word) (s : State) : State := (s.write (s.imm16 opaddr) (s.reg .a)).setPc (opaddr + 3)

/-- `LD B,B`, 0x40 (R76). -/
def execLd_B_B (s : State) : Result := .next (loadRegReg .b .b (s.opaddr false) s)

/-- `LD B,C`, 0x41 (R76). -/
def execLd_B_C (s : State) : Result := .next (loadRegReg .b .c (s.opaddr false) s)

/-- `LD B,D`, 0x42 (R76). -/
def execLd_B_D (s : State) : Result := .next (loadRegReg .b .d (s.opaddr false) s)

/-- `LD B,E`, 0x43 (R76). -/
def execLd_B_E (s : State) : Result := .next (loadRegReg .b .e (s.opaddr false) s)

/-- `LD B,H`, 0x44 (R76). -/
def execLd_B_H (s : State) : Result := .next (loadRegReg .b .h (s.opaddr false) s)

/-- `LD B,L`, 0x45 (R76). -/
def execLd_B_L (s : State) : Result := .next (loadRegReg .b .l (s.opaddr false) s)

/-- `LD B,A`, 0x47 (R76). -/
def execLd_B_A (s : State) : Result := .next (loadRegReg .b .a (s.opaddr false) s)

/-- `LD C,B`, 0x48 (R76). -/
def execLd_C_B (s : State) : Result := .next (loadRegReg .c .b (s.opaddr false) s)

/-- `LD C,C`, 0x49 (R76). -/
def execLd_C_C (s : State) : Result := .next (loadRegReg .c .c (s.opaddr false) s)

/-- `LD C,D`, 0x4A (R76). -/
def execLd_C_D (s : State) : Result := .next (loadRegReg .c .d (s.opaddr false) s)

/-- `LD C,E`, 0x4B (R76). -/
def execLd_C_E (s : State) : Result := .next (loadRegReg .c .e (s.opaddr false) s)

/-- `LD C,H`, 0x4C (R76). -/
def execLd_C_H (s : State) : Result := .next (loadRegReg .c .h (s.opaddr false) s)

/-- `LD C,L`, 0x4D (R76). -/
def execLd_C_L (s : State) : Result := .next (loadRegReg .c .l (s.opaddr false) s)

/-- `LD C,A`, 0x4F (R76). -/
def execLd_C_A (s : State) : Result := .next (loadRegReg .c .a (s.opaddr false) s)

/-- `LD D,B`, 0x50 (R76). -/
def execLd_D_B (s : State) : Result := .next (loadRegReg .d .b (s.opaddr false) s)

/-- `LD D,C`, 0x51 (R76). -/
def execLd_D_C (s : State) : Result := .next (loadRegReg .d .c (s.opaddr false) s)

/-- `LD D,D`, 0x52 (R76). -/
def execLd_D_D (s : State) : Result := .next (loadRegReg .d .d (s.opaddr false) s)

/-- `LD D,E`, 0x53 (R76). -/
def execLd_D_E (s : State) : Result := .next (loadRegReg .d .e (s.opaddr false) s)

/-- `LD D,H`, 0x54 (R76). -/
def execLd_D_H (s : State) : Result := .next (loadRegReg .d .h (s.opaddr false) s)

/-- `LD D,L`, 0x55 (R76). -/
def execLd_D_L (s : State) : Result := .next (loadRegReg .d .l (s.opaddr false) s)

/-- `LD D,A`, 0x57 (R76). -/
def execLd_D_A (s : State) : Result := .next (loadRegReg .d .a (s.opaddr false) s)

/-- `LD E,B`, 0x58 (R76). -/
def execLd_E_B (s : State) : Result := .next (loadRegReg .e .b (s.opaddr false) s)

/-- `LD E,C`, 0x59 (R76). -/
def execLd_E_C (s : State) : Result := .next (loadRegReg .e .c (s.opaddr false) s)

/-- `LD E,D`, 0x5A (R76). -/
def execLd_E_D (s : State) : Result := .next (loadRegReg .e .d (s.opaddr false) s)

/-- `LD E,E`, 0x5B (R76). -/
def execLd_E_E (s : State) : Result := .next (loadRegReg .e .e (s.opaddr false) s)

/-- `LD E,H`, 0x5C (R76). -/
def execLd_E_H (s : State) : Result := .next (loadRegReg .e .h (s.opaddr false) s)

/-- `LD E,L`, 0x5D (R76). -/
def execLd_E_L (s : State) : Result := .next (loadRegReg .e .l (s.opaddr false) s)

/-- `LD E,A`, 0x5F (R76). -/
def execLd_E_A (s : State) : Result := .next (loadRegReg .e .a (s.opaddr false) s)

/-- `LD H,B`, 0x60 (R76). -/
def execLd_H_B (s : State) : Result := .next (loadRegReg .h .b (s.opaddr false) s)

/-- `LD H,C`, 0x61 (R76). -/
def execLd_H_C (s : State) : Result := .next (loadRegReg .h .c (s.opaddr false) s)

/-- `LD H,D`, 0x62 (R76). -/
def execLd_H_D (s : State) : Result := .next (loadRegReg .h .d (s.opaddr false) s)

/-- `LD H,E`, 0x63 (R76). -/
def execLd_H_E (s : State) : Result := .next (loadRegReg .h .e (s.opaddr false) s)

/-- `LD H,H`, 0x64 (R76). -/
def execLd_H_H (s : State) : Result := .next (loadRegReg .h .h (s.opaddr false) s)

/-- `LD H,L`, 0x65 (R76). -/
def execLd_H_L (s : State) : Result := .next (loadRegReg .h .l (s.opaddr false) s)

/-- `LD H,A`, 0x67 (R76). -/
def execLd_H_A (s : State) : Result := .next (loadRegReg .h .a (s.opaddr false) s)

/-- `LD L,B`, 0x68 (R76). -/
def execLd_L_B (s : State) : Result := .next (loadRegReg .l .b (s.opaddr false) s)

/-- `LD L,C`, 0x69 (R76). -/
def execLd_L_C (s : State) : Result := .next (loadRegReg .l .c (s.opaddr false) s)

/-- `LD L,D`, 0x6A (R76). -/
def execLd_L_D (s : State) : Result := .next (loadRegReg .l .d (s.opaddr false) s)

/-- `LD L,E`, 0x6B (R76). -/
def execLd_L_E (s : State) : Result := .next (loadRegReg .l .e (s.opaddr false) s)

/-- `LD L,H`, 0x6C (R76). -/
def execLd_L_H (s : State) : Result := .next (loadRegReg .l .h (s.opaddr false) s)

/-- `LD L,L`, 0x6D (R76). -/
def execLd_L_L (s : State) : Result := .next (loadRegReg .l .l (s.opaddr false) s)

/-- `LD L,A`, 0x6F (R76). -/
def execLd_L_A (s : State) : Result := .next (loadRegReg .l .a (s.opaddr false) s)

/-- `LD A,B`, 0x78 (R76). -/
def execLd_A_B (s : State) : Result := .next (loadRegReg .a .b (s.opaddr false) s)

/-- `LD A,C`, 0x79 (R76). -/
def execLd_A_C (s : State) : Result := .next (loadRegReg .a .c (s.opaddr false) s)

/-- `LD A,D`, 0x7A (R76). -/
def execLd_A_D (s : State) : Result := .next (loadRegReg .a .d (s.opaddr false) s)

/-- `LD A,E`, 0x7B (R76). -/
def execLd_A_E (s : State) : Result := .next (loadRegReg .a .e (s.opaddr false) s)

/-- `LD A,H`, 0x7C (R76). -/
def execLd_A_H (s : State) : Result := .next (loadRegReg .a .h (s.opaddr false) s)

/-- `LD A,L`, 0x7D (R76). -/
def execLd_A_L (s : State) : Result := .next (loadRegReg .a .l (s.opaddr false) s)

/-- `LD A,A`, 0x7F (R76). -/
def execLd_A_A (s : State) : Result := .next (loadRegReg .a .a (s.opaddr false) s)

/-- `LD B,d8`, 0x06 (R77). -/
def execLd_B_d8 (s : State) : Result := .next (loadRegImm .b (s.opaddr false) s)

/-- `LD C,d8`, 0x0E (R77). -/
def execLd_C_d8 (s : State) : Result := .next (loadRegImm .c (s.opaddr false) s)

/-- `LD D,d8`, 0x16 (R77). -/
def execLd_D_d8 (s : State) : Result := .next (loadRegImm .d (s.opaddr false) s)

/-- `LD E,d8`, 0x1E (R77). -/
def execLd_E_d8 (s : State) : Result := .next (loadRegImm .e (s.opaddr false) s)

/-- `LD H,d8`, 0x26 (R77). -/
def execLd_H_d8 (s : State) : Result := .next (loadRegImm .h (s.opaddr false) s)

/-- `LD L,d8`, 0x2E (R77). -/
def execLd_L_d8 (s : State) : Result := .next (loadRegImm .l (s.opaddr false) s)

/-- `LD A,d8`, 0x3E (R77). -/
def execLd_A_d8 (s : State) : Result := .next (loadRegImm .a (s.opaddr false) s)

/-- `LD B,(HL)`, 0x46 (R78). -/
def execLd_B_atHL (s : State) : Result := .next (loadRegMem .b .hl (s.opaddr false) s)

/-- `LD C,(HL)`, 0x4E (R78). -/
def execLd_C_atHL (s : State) : Result := .next (loadRegMem .c .hl (s.opaddr false) s)

/-- `LD D,(HL)`, 0x56 (R78). -/
def execLd_D_atHL (s : State) : Result := .next (loadRegMem .d .hl (s.opaddr false) s)

/-- `LD E,(HL)`, 0x5E (R78). -/
def execLd_E_atHL (s : State) : Result := .next (loadRegMem .e .hl (s.opaddr false) s)

/-- `LD H,(HL)`, 0x66 (R78). -/
def execLd_H_atHL (s : State) : Result := .next (loadRegMem .h .hl (s.opaddr false) s)

/-- `LD L,(HL)`, 0x6E (R78). -/
def execLd_L_atHL (s : State) : Result := .next (loadRegMem .l .hl (s.opaddr false) s)

/-- `LD A,(HL)`, 0x7E (R78). -/
def execLd_A_atHL (s : State) : Result := .next (loadRegMem .a .hl (s.opaddr false) s)

/-- `LD (HL),B`, 0x70 (R79). -/
def execLd_atHL_B (s : State) : Result := .next (storeRegMem .hl .b (s.opaddr false) s)

/-- `LD (HL),C`, 0x71 (R79). -/
def execLd_atHL_C (s : State) : Result := .next (storeRegMem .hl .c (s.opaddr false) s)

/-- `LD (HL),D`, 0x72 (R79). -/
def execLd_atHL_D (s : State) : Result := .next (storeRegMem .hl .d (s.opaddr false) s)

/-- `LD (HL),E`, 0x73 (R79). -/
def execLd_atHL_E (s : State) : Result := .next (storeRegMem .hl .e (s.opaddr false) s)

/-- `LD (HL),H`, 0x74 (R79). -/
def execLd_atHL_H (s : State) : Result := .next (storeRegMem .hl .h (s.opaddr false) s)

/-- `LD (HL),L`, 0x75 (R79). -/
def execLd_atHL_L (s : State) : Result := .next (storeRegMem .hl .l (s.opaddr false) s)

/-- `LD (HL),A`, 0x77 (R79). -/
def execLd_atHL_A (s : State) : Result := .next (storeRegMem .hl .a (s.opaddr false) s)

/-- `LD (HL),d8`, 0x36 (R80). -/
def execLd_atHL_d8 (s : State) : Result := .next (storeImmHl (s.opaddr false) s)

/-- `LD A,(BC)`, 0x0A (R81). -/
def execLd_A_atBC (s : State) : Result := .next (loadRegMem .a .bc (s.opaddr false) s)

/-- `LD A,(DE)`, 0x1A (R82). -/
def execLd_A_atDE (s : State) : Result := .next (loadRegMem .a .de (s.opaddr false) s)

/-- `LD (BC),A`, 0x02 (R83). -/
def execLd_atBC_A (s : State) : Result := .next (storeRegMem .bc .a (s.opaddr false) s)

/-- `LD (DE),A`, 0x12 (R84). -/
def execLd_atDE_A (s : State) : Result := .next (storeRegMem .de .a (s.opaddr false) s)

/-- `LD (HL+),A`, 0x22 (R85). -/
def execLd_atHLinc_A (s : State) : Result := .next (storeAHlStep 1 (s.opaddr false) s)

/-- `LD (HL-),A`, 0x32 (R86). -/
def execLd_atHLdec_A (s : State) : Result := .next (storeAHlStep (-1) (s.opaddr false) s)

/-- `LD (C),A`, 0xE2 (R87). -/
def execLd_atC_A (s : State) : Result := .next (storeAHighC (s.opaddr false) s)

/-- `LDH (a8),A`, 0xE0 (R88). -/
def execLdh_a8_A (s : State) : Result := .next (storeAHighImm (s.opaddr false) s)

/-- `LD (a16),A`, 0xEA (R89). -/
def execLd_a16_A (s : State) : Result := .next (storeAAbs (s.opaddr false) s)

end Sys2Proof.Machine
end

