-- ==== Sys2Proof/Machine/PushPop.lean ====
section
/-!
DEFINITION. Push and pop (spec/47_push_pop.md). Each shared operation takes the
address of the opcode byte, as the rules' pseudocode does; one meaning per instruction follows.
-/
namespace Sys2Proof.Machine

/-- `PUSH rr` (R115). -/
def pushReg16 (rr : PairAf) (opaddr : Word) (s : State) : State := (s.push16 (s.get16 rr.sel)).setPc (opaddr + 1)

/-- `POP rr` (R116). -/
def popReg16 (rr : PairAf) (opaddr : Word) (s : State) : State :=
  let (v, t) := s.pop16
  (t.set16 rr.sel v).setPc (opaddr + 1)

/-- `PUSH BC`, 0xC5 (R115). -/
def execPush_BC (s : State) : Result := .next (pushReg16 .bc (s.opaddr false) s)

/-- `PUSH DE`, 0xD5 (R115). -/
def execPush_DE (s : State) : Result := .next (pushReg16 .de (s.opaddr false) s)

/-- `PUSH HL`, 0xE5 (R115). -/
def execPush_HL (s : State) : Result := .next (pushReg16 .hl (s.opaddr false) s)

/-- `PUSH AF`, 0xF5 (R115). -/
def execPush_AF (s : State) : Result := .next (pushReg16 .af (s.opaddr false) s)

/-- `POP BC`, 0xC1 (R116). -/
def execPop_BC (s : State) : Result := .next (popReg16 .bc (s.opaddr false) s)

/-- `POP DE`, 0xD1 (R116). -/
def execPop_DE (s : State) : Result := .next (popReg16 .de (s.opaddr false) s)

/-- `POP HL`, 0xE1 (R116). -/
def execPop_HL (s : State) : Result := .next (popReg16 .hl (s.opaddr false) s)

/-- `POP AF`, 0xF1 (R116). -/
def execPop_AF (s : State) : Result := .next (popReg16 .af (s.opaddr false) s)

end Sys2Proof.Machine
end

