-- ==== Sys2Proof/Machine/Rotate.lean ====
section
/-!
DEFINITION. Rotate left through carry (spec/48_rotate_left.md). Each shared operation takes the
address of the opcode byte, as the rules' pseudocode does; one meaning per instruction follows.
-/
namespace Sys2Proof.Machine

/-- `RL r` (R120): bit 0 is the old carry, the new carry the old bit 7; N and H are kept. -/
def rotateLeft (r : Gpr) (opaddr : Word) (s : State) : State :=
  let old := s.reg r
  let result := (old <<< 1) ||| (BitVec.ofBool s.f.c).setWidth 8
  ((s.setReg r result).setFlags (s.f.withZC (result == 0) (old.getLsbD 7))).setPc (opaddr + 1)

/-- `RL B`, prefixed 0x10 (R120). -/
def execRl_B (s : State) : Result := .next (rotateLeft .b (s.opaddr true) s)

/-- `RL C`, prefixed 0x11 (R120). -/
def execRl_C (s : State) : Result := .next (rotateLeft .c (s.opaddr true) s)

/-- `RL D`, prefixed 0x12 (R120). -/
def execRl_D (s : State) : Result := .next (rotateLeft .d (s.opaddr true) s)

/-- `RL E`, prefixed 0x13 (R120). -/
def execRl_E (s : State) : Result := .next (rotateLeft .e (s.opaddr true) s)

/-- `RL H`, prefixed 0x14 (R120). -/
def execRl_H (s : State) : Result := .next (rotateLeft .h (s.opaddr true) s)

/-- `RL L`, prefixed 0x15 (R120). -/
def execRl_L (s : State) : Result := .next (rotateLeft .l (s.opaddr true) s)

/-- `RL A`, prefixed 0x17 (R120). -/
def execRl_A (s : State) : Result := .next (rotateLeft .a (s.opaddr true) s)

end Sys2Proof.Machine
end

