-- ==== Sys2Proof/WellFormed.lean ====
section
/-!
DEFINITION. Which instruction terms are well formed: an unmapped encoding must be one of the bytes the
unmapped rows of spec/opcode_table.json cover. Every other operand is well formed by its type.
-/
namespace Sys2Proof

/-- The (mask, match) patterns of the 24 unmapped rows of the plain table. -/
def unmappedPlainRows : List (Byte × Byte) :=
  [
    (0xC7, 0x07), (0xEE, 0x08), (0xDF, 0x10), (0xEF, 0x29), (0xEF, 0x2A), (0xFE, 0x34), (0xFF, 0x38),
    (0x7F, 0x76), (0xFF, 0x86), (0xF8, 0x88), (0xD0, 0x90), (0xF8, 0xA0), (0xBF, 0xAE), (0xE1, 0xC0),
    (0xCB, 0xC3), (0xCF, 0xCF), (0xFB, 0xD9), (0xDF, 0xDB), (0xE7, 0xE4), (0xFF, 0xE6), (0xFE, 0xE8),
    (0xFF, 0xEB), (0xEF, 0xED), (0xF5, 0xF0) ]

/-- The (mask, match) patterns of the 6 unmapped rows of the prefixed table. -/
def unmappedPrefixedRows : List (Byte × Byte) :=
  [
    (0xD0, 0x00), (0xFF, 0x16), (0xD8, 0x18), (0xF8, 0x30), (0xC7, 0x46), (0x80, 0x80) ]

/-- Whether a byte of one of the two tables is covered by an unmapped row (spec/30_encoding.md R57). -/
def isUnmapped (op : Byte) (prefixed : Bool) : Bool :=
  (if prefixed then unmappedPrefixedRows else unmappedPlainRows).any fun row => op &&& row.1 == row.2

/-- The checks on an instruction term. -/
def Instr.wf : Instr → Bool
  | .unmapped op prefixed => isUnmapped op prefixed
  | _ => true

end Sys2Proof
end

