-- ==== Sys2Proof/Decode.lean ====
section
/-!
DEFINITION. The decoder (spec/30_encoding.md R52): the plain table and the prefixed table as the grids of
R55 and R56, and the escape byte of R51; then the encoder, written from the Encoding paragraph of each
instruction's rule, the formats and lengths of R50, and the operand families of R53.
-/
namespace Sys2Proof

/-- Row 0x of the plain table (R55). -/
def plainRow0 : List (Option Instr) :=
  [ some .nop, some .ld_BC_d16, some .ld_atBC_A, some .inc_BC, some .inc_B, some .dec_B, some .ld_B_d8, none,
    none, none, some .ld_A_atBC, some .dec_BC, some .inc_C, some .dec_C, some .ld_C_d8, none ]

/-- Row 1x of the plain table (R55). -/
def plainRow1 : List (Option Instr) :=
  [ none, some .ld_DE_d16, some .ld_atDE_A, some .inc_DE, some .inc_D, some .dec_D, some .ld_D_d8, none,
    none, none, some .ld_A_atDE, some .dec_DE, some .inc_E, some .dec_E, some .ld_E_d8, none ]

/-- Row 2x of the plain table (R55). -/
def plainRow2 : List (Option Instr) :=
  [ some .jr_NZ, some .ld_HL_d16, some .ld_atHLinc_A, some .inc_HL, some .inc_H, some .dec_H, some .ld_H_d8, none,
    some .jr_Z, none, none, some .dec_HL, some .inc_L, some .dec_L, some .ld_L_d8, none ]

/-- Row 3x of the plain table (R55). -/
def plainRow3 : List (Option Instr) :=
  [ none, some .ld_SP_d16, some .ld_atHLdec_A, some .inc_SP, none, none, some .ld_atHL_d8, none,
    none, none, none, some .dec_SP, some .inc_A, some .dec_A, some .ld_A_d8, none ]

/-- Row 4x of the plain table (R55). -/
def plainRow4 : List (Option Instr) :=
  [ some .ld_B_B, some .ld_B_C, some .ld_B_D, some .ld_B_E, some .ld_B_H, some .ld_B_L, some .ld_B_atHL, some .ld_B_A,
    some .ld_C_B, some .ld_C_C, some .ld_C_D, some .ld_C_E, some .ld_C_H, some .ld_C_L, some .ld_C_atHL, some .ld_C_A ]

/-- Row 5x of the plain table (R55). -/
def plainRow5 : List (Option Instr) :=
  [ some .ld_D_B, some .ld_D_C, some .ld_D_D, some .ld_D_E, some .ld_D_H, some .ld_D_L, some .ld_D_atHL, some .ld_D_A,
    some .ld_E_B, some .ld_E_C, some .ld_E_D, some .ld_E_E, some .ld_E_H, some .ld_E_L, some .ld_E_atHL, some .ld_E_A ]

/-- Row 6x of the plain table (R55). -/
def plainRow6 : List (Option Instr) :=
  [ some .ld_H_B, some .ld_H_C, some .ld_H_D, some .ld_H_E, some .ld_H_H, some .ld_H_L, some .ld_H_atHL, some .ld_H_A,
    some .ld_L_B, some .ld_L_C, some .ld_L_D, some .ld_L_E, some .ld_L_H, some .ld_L_L, some .ld_L_atHL, some .ld_L_A ]

/-- Row 7x of the plain table (R55). -/
def plainRow7 : List (Option Instr) :=
  [ some .ld_atHL_B, some .ld_atHL_C, some .ld_atHL_D, some .ld_atHL_E, some .ld_atHL_H, some .ld_atHL_L, none, some .ld_atHL_A,
    some .ld_A_B, some .ld_A_C, some .ld_A_D, some .ld_A_E, some .ld_A_H, some .ld_A_L, some .ld_A_atHL, some .ld_A_A ]

/-- Row 8x of the plain table (R55). -/
def plainRow8 : List (Option Instr) :=
  [ some .add_A_B, some .add_A_C, some .add_A_D, some .add_A_E, some .add_A_H, some .add_A_L, none, some .add_A_A,
    none, none, none, none, none, none, none, none ]

/-- Row 9x of the plain table (R55). -/
def plainRow9 : List (Option Instr) :=
  [ none, none, none, none, none, none, none, none,
    none, none, none, none, none, none, none, none ]

/-- Row Ax of the plain table (R55). -/
def plainRowA : List (Option Instr) :=
  [ none, none, none, none, none, none, none, none,
    some .xor_B, some .xor_C, some .xor_D, some .xor_E, some .xor_H, some .xor_L, none, some .xor_A ]

/-- Row Bx of the plain table (R55). -/
def plainRowB : List (Option Instr) :=
  [ none, none, none, none, none, none, none, none,
    none, none, none, none, none, none, none, none ]

/-- Row Cx of the plain table (R55). -/
def plainRowC : List (Option Instr) :=
  [ none, some .pop_BC, none, none, none, some .push_BC, none, none,
    none, some .ret, none, some .escape, none, some .call_a16, none, none ]

/-- Row Dx of the plain table (R55). -/
def plainRowD : List (Option Instr) :=
  [ none, some .pop_DE, none, none, none, some .push_DE, none, none,
    none, none, none, none, none, none, none, none ]

/-- Row Ex of the plain table (R55). -/
def plainRowE : List (Option Instr) :=
  [ some .ldh_a8_A, some .pop_HL, some .ld_atC_A, none, none, some .push_HL, none, none,
    none, none, some .ld_a16_A, none, none, none, none, none ]

/-- Row Fx of the plain table (R55). -/
def plainRowF : List (Option Instr) :=
  [ none, some .pop_AF, none, none, none, some .push_AF, none, none,
    none, some .ld_SP_HL, none, none, none, none, some .cp_d8, none ]

/-- The plain table (R55), one row per high nibble. -/
def plainTable : List (List (Option Instr)) :=
  [
    plainRow0, plainRow1, plainRow2, plainRow3, plainRow4, plainRow5, plainRow6, plainRow7, plainRow8,
    plainRow9, plainRowA, plainRowB, plainRowC, plainRowD, plainRowE, plainRowF ]

/-- Row 1x of the prefixed table (R56). -/
def prefixedRow1 : List (Option Instr) :=
  [ some .rl_B, some .rl_C, some .rl_D, some .rl_E, some .rl_H, some .rl_L, none, some .rl_A,
    none, none, none, none, none, none, none, none ]

/-- Row 4x of the prefixed table (R56). -/
def prefixedRow4 : List (Option Instr) :=
  [ some .bit_0_B, some .bit_0_C, some .bit_0_D, some .bit_0_E, some .bit_0_H, some .bit_0_L, none, some .bit_0_A,
    some .bit_1_B, some .bit_1_C, some .bit_1_D, some .bit_1_E, some .bit_1_H, some .bit_1_L, none, some .bit_1_A ]

/-- Row 5x of the prefixed table (R56). -/
def prefixedRow5 : List (Option Instr) :=
  [ some .bit_2_B, some .bit_2_C, some .bit_2_D, some .bit_2_E, some .bit_2_H, some .bit_2_L, none, some .bit_2_A,
    some .bit_3_B, some .bit_3_C, some .bit_3_D, some .bit_3_E, some .bit_3_H, some .bit_3_L, none, some .bit_3_A ]

/-- Row 6x of the prefixed table (R56). -/
def prefixedRow6 : List (Option Instr) :=
  [ some .bit_4_B, some .bit_4_C, some .bit_4_D, some .bit_4_E, some .bit_4_H, some .bit_4_L, none, some .bit_4_A,
    some .bit_5_B, some .bit_5_C, some .bit_5_D, some .bit_5_E, some .bit_5_H, some .bit_5_L, none, some .bit_5_A ]

/-- Row 7x of the prefixed table (R56). -/
def prefixedRow7 : List (Option Instr) :=
  [ some .bit_6_B, some .bit_6_C, some .bit_6_D, some .bit_6_E, some .bit_6_H, some .bit_6_L, none, some .bit_6_A,
    some .bit_7_B, some .bit_7_C, some .bit_7_D, some .bit_7_E, some .bit_7_H, some .bit_7_L, none, some .bit_7_A ]

/-- The prefixed table (R56), one row per high nibble; a row that is all unmapped lists nothing. -/
def prefixedTable : List (List (Option Instr)) :=
  [[], prefixedRow1, [], [], prefixedRow4, prefixedRow5, prefixedRow6, prefixedRow7]

/-- `Decode(op, prefixed)` (R52): the entry of one of the two tables, `none` for an unmapped byte. -/
def decodeEntry (op : Byte) (prefixed : Bool) : Option Instr :=
  ((if prefixed then prefixedTable else plainTable).getD (op.toNat / 16) []).getD (op.toNat % 16) none

/-- The instruction an opcode byte stands for, an unmapped byte by its own name (DESIGN CHOICE, safe:
log entry 3). -/
def decodeOpcode (op : Byte) (prefixed : Bool) : Instr := (decodeEntry op prefixed).getD (.unmapped op prefixed)

/-- Why bytes are no instruction. -/
inductive DecodeError where
  /-- There is no byte to decode. -/
  | noByte
  deriving DecidableEq, Repr

/-- The instruction the bytes at an address begin with (R51). The byte after the escape byte is always
looked up in the prefixed table; the escape byte with nothing after it is its own row (DESIGN CHOICE,
safe: log entry 2). -/
def decode : List Byte → Except DecodeError Instr
  | [] => .error .noByte
  | [op] => .ok (decodeOpcode op false)
  | b0 :: b1 :: _ => .ok (if b0 = Config.escapeByte then decodeOpcode b1 true else decodeOpcode b0 false)

/-- The bytes of a number, least significant first. -/
def bytesOfNat : Nat → Nat → List Byte
  | 0, _ => []
  | n + 1, w => BitVec.ofNat 8 w :: bytesOfNat n (w / 256)

/-- The instruction the decoder reads from a row's bits, numbered as spec/opcode_table.json numbers
them. The decoder reads opcode bytes only, never an immediate, so the row's own bytes are enough
(DESIGN CHOICE, safe: log entry 5). -/
def decodeTableWord (nbits w : Nat) : Option Instr :=
  match decode (bytesOfNat (nbits / 8) w) with
  | .ok i => some i
  | .error _ => none

/-- The opcode bytes of an instruction, the prefix among them, at ascending addresses. -/
def encode : Instr → List Byte
  -- NOP (R70)
  | .nop => [0x00]
  -- LD rr,d16 (R71)
  | .ld_BC_d16 => [0x01]
  | .ld_DE_d16 => [0x11]
  | .ld_HL_d16 => [0x21]
  | .ld_SP_d16 => [0x31]
  -- LD SP,HL (R72)
  | .ld_SP_HL => [0xF9]
  -- LD r,r' (R76)
  | .ld_B_B => [0x40]
  | .ld_B_C => [0x41]
  | .ld_B_D => [0x42]
  | .ld_B_E => [0x43]
  | .ld_B_H => [0x44]
  | .ld_B_L => [0x45]
  | .ld_B_A => [0x47]
  | .ld_C_B => [0x48]
  | .ld_C_C => [0x49]
  | .ld_C_D => [0x4A]
  | .ld_C_E => [0x4B]
  | .ld_C_H => [0x4C]
  | .ld_C_L => [0x4D]
  | .ld_C_A => [0x4F]
  | .ld_D_B => [0x50]
  | .ld_D_C => [0x51]
  | .ld_D_D => [0x52]
  | .ld_D_E => [0x53]
  | .ld_D_H => [0x54]
  | .ld_D_L => [0x55]
  | .ld_D_A => [0x57]
  | .ld_E_B => [0x58]
  | .ld_E_C => [0x59]
  | .ld_E_D => [0x5A]
  | .ld_E_E => [0x5B]
  | .ld_E_H => [0x5C]
  | .ld_E_L => [0x5D]
  | .ld_E_A => [0x5F]
  | .ld_H_B => [0x60]
  | .ld_H_C => [0x61]
  | .ld_H_D => [0x62]
  | .ld_H_E => [0x63]
  | .ld_H_H => [0x64]
  | .ld_H_L => [0x65]
  | .ld_H_A => [0x67]
  | .ld_L_B => [0x68]
  | .ld_L_C => [0x69]
  | .ld_L_D => [0x6A]
  | .ld_L_E => [0x6B]
  | .ld_L_H => [0x6C]
  | .ld_L_L => [0x6D]
  | .ld_L_A => [0x6F]
  | .ld_A_B => [0x78]
  | .ld_A_C => [0x79]
  | .ld_A_D => [0x7A]
  | .ld_A_E => [0x7B]
  | .ld_A_H => [0x7C]
  | .ld_A_L => [0x7D]
  | .ld_A_A => [0x7F]
  -- LD r,d8 (R77)
  | .ld_B_d8 => [0x06]
  | .ld_C_d8 => [0x0E]
  | .ld_D_d8 => [0x16]
  | .ld_E_d8 => [0x1E]
  | .ld_H_d8 => [0x26]
  | .ld_L_d8 => [0x2E]
  | .ld_A_d8 => [0x3E]
  -- LD r,(HL) (R78)
  | .ld_B_atHL => [0x46]
  | .ld_C_atHL => [0x4E]
  | .ld_D_atHL => [0x56]
  | .ld_E_atHL => [0x5E]
  | .ld_H_atHL => [0x66]
  | .ld_L_atHL => [0x6E]
  | .ld_A_atHL => [0x7E]
  -- LD (HL),r (R79)
  | .ld_atHL_B => [0x70]
  | .ld_atHL_C => [0x71]
  | .ld_atHL_D => [0x72]
  | .ld_atHL_E => [0x73]
  | .ld_atHL_H => [0x74]
  | .ld_atHL_L => [0x75]
  | .ld_atHL_A => [0x77]
  -- LD (HL),d8 (R80)
  | .ld_atHL_d8 => [0x36]
  -- LD A,(BC) (R81)
  | .ld_A_atBC => [0x0A]
  -- LD A,(DE) (R82)
  | .ld_A_atDE => [0x1A]
  -- LD (BC),A (R83)
  | .ld_atBC_A => [0x02]
  -- LD (DE),A (R84)
  | .ld_atDE_A => [0x12]
  -- LD (HL+),A (R85)
  | .ld_atHLinc_A => [0x22]
  -- LD (HL-),A (R86)
  | .ld_atHLdec_A => [0x32]
  -- LD (C),A (R87)
  | .ld_atC_A => [0xE2]
  -- LDH (a8),A (R88)
  | .ldh_a8_A => [0xE0]
  -- LD (a16),A (R89)
  | .ld_a16_A => [0xEA]
  -- XOR r (R95)
  | .xor_B => [0xA8]
  | .xor_C => [0xA9]
  | .xor_D => [0xAA]
  | .xor_E => [0xAB]
  | .xor_H => [0xAC]
  | .xor_L => [0xAD]
  | .xor_A => [0xAF]
  -- BIT n,r (R98)
  | .bit_0_B => [0xCB, 0x40]
  | .bit_0_C => [0xCB, 0x41]
  | .bit_0_D => [0xCB, 0x42]
  | .bit_0_E => [0xCB, 0x43]
  | .bit_0_H => [0xCB, 0x44]
  | .bit_0_L => [0xCB, 0x45]
  | .bit_0_A => [0xCB, 0x47]
  | .bit_1_B => [0xCB, 0x48]
  | .bit_1_C => [0xCB, 0x49]
  | .bit_1_D => [0xCB, 0x4A]
  | .bit_1_E => [0xCB, 0x4B]
  | .bit_1_H => [0xCB, 0x4C]
  | .bit_1_L => [0xCB, 0x4D]
  | .bit_1_A => [0xCB, 0x4F]
  | .bit_2_B => [0xCB, 0x50]
  | .bit_2_C => [0xCB, 0x51]
  | .bit_2_D => [0xCB, 0x52]
  | .bit_2_E => [0xCB, 0x53]
  | .bit_2_H => [0xCB, 0x54]
  | .bit_2_L => [0xCB, 0x55]
  | .bit_2_A => [0xCB, 0x57]
  | .bit_3_B => [0xCB, 0x58]
  | .bit_3_C => [0xCB, 0x59]
  | .bit_3_D => [0xCB, 0x5A]
  | .bit_3_E => [0xCB, 0x5B]
  | .bit_3_H => [0xCB, 0x5C]
  | .bit_3_L => [0xCB, 0x5D]
  | .bit_3_A => [0xCB, 0x5F]
  | .bit_4_B => [0xCB, 0x60]
  | .bit_4_C => [0xCB, 0x61]
  | .bit_4_D => [0xCB, 0x62]
  | .bit_4_E => [0xCB, 0x63]
  | .bit_4_H => [0xCB, 0x64]
  | .bit_4_L => [0xCB, 0x65]
  | .bit_4_A => [0xCB, 0x67]
  | .bit_5_B => [0xCB, 0x68]
  | .bit_5_C => [0xCB, 0x69]
  | .bit_5_D => [0xCB, 0x6A]
  | .bit_5_E => [0xCB, 0x6B]
  | .bit_5_H => [0xCB, 0x6C]
  | .bit_5_L => [0xCB, 0x6D]
  | .bit_5_A => [0xCB, 0x6F]
  | .bit_6_B => [0xCB, 0x70]
  | .bit_6_C => [0xCB, 0x71]
  | .bit_6_D => [0xCB, 0x72]
  | .bit_6_E => [0xCB, 0x73]
  | .bit_6_H => [0xCB, 0x74]
  | .bit_6_L => [0xCB, 0x75]
  | .bit_6_A => [0xCB, 0x77]
  | .bit_7_B => [0xCB, 0x78]
  | .bit_7_C => [0xCB, 0x79]
  | .bit_7_D => [0xCB, 0x7A]
  | .bit_7_E => [0xCB, 0x7B]
  | .bit_7_H => [0xCB, 0x7C]
  | .bit_7_L => [0xCB, 0x7D]
  | .bit_7_A => [0xCB, 0x7F]
  -- JR NZ,e8 (R101)
  | .jr_NZ => [0x20]
  -- JR Z,e8 (R102)
  | .jr_Z => [0x28]
  -- INC r (R105)
  | .inc_B => [0x04]
  | .inc_C => [0x0C]
  | .inc_D => [0x14]
  | .inc_E => [0x1C]
  | .inc_H => [0x24]
  | .inc_L => [0x2C]
  | .inc_A => [0x3C]
  -- DEC r (R106)
  | .dec_B => [0x05]
  | .dec_C => [0x0D]
  | .dec_D => [0x15]
  | .dec_E => [0x1D]
  | .dec_H => [0x25]
  | .dec_L => [0x2D]
  | .dec_A => [0x3D]
  -- INC rr (R107)
  | .inc_BC => [0x03]
  | .inc_DE => [0x13]
  | .inc_HL => [0x23]
  | .inc_SP => [0x33]
  -- DEC rr (R108)
  | .dec_BC => [0x0B]
  | .dec_DE => [0x1B]
  | .dec_HL => [0x2B]
  | .dec_SP => [0x3B]
  -- CALL a16 (R110)
  | .call_a16 => [0xCD]
  -- RET (R111)
  | .ret => [0xC9]
  -- PUSH rr (R115)
  | .push_BC => [0xC5]
  | .push_DE => [0xD5]
  | .push_HL => [0xE5]
  | .push_AF => [0xF5]
  -- POP rr (R116)
  | .pop_BC => [0xC1]
  | .pop_DE => [0xD1]
  | .pop_HL => [0xE1]
  | .pop_AF => [0xF1]
  -- RL r (R120)
  | .rl_B => [0xCB, 0x10]
  | .rl_C => [0xCB, 0x11]
  | .rl_D => [0xCB, 0x12]
  | .rl_E => [0xCB, 0x13]
  | .rl_H => [0xCB, 0x14]
  | .rl_L => [0xCB, 0x15]
  | .rl_A => [0xCB, 0x17]
  -- CP d8 (R123)
  | .cp_d8 => [0xFE]
  -- ADD A,r (R124)
  | .add_A_B => [0x80]
  | .add_A_C => [0x81]
  | .add_A_D => [0x82]
  | .add_A_E => [0x83]
  | .add_A_H => [0x84]
  | .add_A_L => [0x85]
  | .add_A_A => [0x87]
  -- the escape byte (R51)
  | .escape => [0xCB]
  -- the unmapped rows (R130)
  | .unmapped op prefixed => if prefixed then [0xCB, op] else [op]

/-- The format of an instruction (R50 and the table's `format`). -/
def Instr.format : Instr → Format
  | .nop
    => .op
  | .ld_BC_d16 | .ld_DE_d16 | .ld_HL_d16 | .ld_SP_d16
    => .opD16
  | .ld_SP_HL
    => .op
  | .ld_B_B | .ld_B_C | .ld_B_D | .ld_B_E | .ld_B_H | .ld_B_L | .ld_B_A | .ld_C_B | .ld_C_C | .ld_C_D
  | .ld_C_E | .ld_C_H | .ld_C_L | .ld_C_A | .ld_D_B | .ld_D_C | .ld_D_D | .ld_D_E | .ld_D_H | .ld_D_L
  | .ld_D_A | .ld_E_B | .ld_E_C | .ld_E_D | .ld_E_E | .ld_E_H | .ld_E_L | .ld_E_A | .ld_H_B | .ld_H_C
  | .ld_H_D | .ld_H_E | .ld_H_H | .ld_H_L | .ld_H_A | .ld_L_B | .ld_L_C | .ld_L_D | .ld_L_E | .ld_L_H
  | .ld_L_L | .ld_L_A | .ld_A_B | .ld_A_C | .ld_A_D | .ld_A_E | .ld_A_H | .ld_A_L | .ld_A_A
    => .op
  | .ld_B_d8 | .ld_C_d8 | .ld_D_d8 | .ld_E_d8 | .ld_H_d8 | .ld_L_d8 | .ld_A_d8
    => .opD8
  | .ld_B_atHL | .ld_C_atHL | .ld_D_atHL | .ld_E_atHL | .ld_H_atHL | .ld_L_atHL | .ld_A_atHL
    => .op
  | .ld_atHL_B | .ld_atHL_C | .ld_atHL_D | .ld_atHL_E | .ld_atHL_H | .ld_atHL_L | .ld_atHL_A
    => .op
  | .ld_atHL_d8
    => .opD8
  | .ld_A_atBC
    => .op
  | .ld_A_atDE
    => .op
  | .ld_atBC_A
    => .op
  | .ld_atDE_A
    => .op
  | .ld_atHLinc_A
    => .op
  | .ld_atHLdec_A
    => .op
  | .ld_atC_A
    => .op
  | .ldh_a8_A
    => .opD8
  | .ld_a16_A
    => .opD16
  | .xor_B | .xor_C | .xor_D | .xor_E | .xor_H | .xor_L | .xor_A
    => .op
  | .bit_0_B | .bit_0_C | .bit_0_D | .bit_0_E | .bit_0_H | .bit_0_L | .bit_0_A | .bit_1_B | .bit_1_C
  | .bit_1_D | .bit_1_E | .bit_1_H | .bit_1_L | .bit_1_A | .bit_2_B | .bit_2_C | .bit_2_D | .bit_2_E
  | .bit_2_H | .bit_2_L | .bit_2_A | .bit_3_B | .bit_3_C | .bit_3_D | .bit_3_E | .bit_3_H | .bit_3_L
  | .bit_3_A | .bit_4_B | .bit_4_C | .bit_4_D | .bit_4_E | .bit_4_H | .bit_4_L | .bit_4_A | .bit_5_B
  | .bit_5_C | .bit_5_D | .bit_5_E | .bit_5_H | .bit_5_L | .bit_5_A | .bit_6_B | .bit_6_C | .bit_6_D
  | .bit_6_E | .bit_6_H | .bit_6_L | .bit_6_A | .bit_7_B | .bit_7_C | .bit_7_D | .bit_7_E | .bit_7_H
  | .bit_7_L | .bit_7_A
    => .cbOp
  | .jr_NZ
    => .opE8
  | .jr_Z
    => .opE8
  | .inc_B | .inc_C | .inc_D | .inc_E | .inc_H | .inc_L | .inc_A
    => .op
  | .dec_B | .dec_C | .dec_D | .dec_E | .dec_H | .dec_L | .dec_A
    => .op
  | .inc_BC | .inc_DE | .inc_HL | .inc_SP
    => .op
  | .dec_BC | .dec_DE | .dec_HL | .dec_SP
    => .op
  | .call_a16
    => .opD16
  | .ret
    => .op
  | .push_BC | .push_DE | .push_HL | .push_AF
    => .op
  | .pop_BC | .pop_DE | .pop_HL | .pop_AF
    => .op
  | .rl_B | .rl_C | .rl_D | .rl_E | .rl_H | .rl_L | .rl_A
    => .cbOp
  | .cp_d8
    => .opD8
  | .add_A_B | .add_A_C | .add_A_D | .add_A_E | .add_A_H | .add_A_L | .add_A_A
    => .op
  | .escape
    => .escape
  | .unmapped _ _ => .unmapped

/-- The length of a format without the prefix byte, L of R59; an unmapped row has none, and the
escape byte is the prefix itself. -/
def Format.lengthAfterOpaddr : Format → Option Nat
  | .op => some 1
  | .opD8 => some 2
  | .opE8 => some 2
  | .opD16 => some 3
  | .cbOp => some 1
  | .escape => none
  | .unmapped => none

/-- Whether an instruction is looked up in the prefixed table. -/
def Instr.isPrefixed (i : Instr) : Bool := i.format == .cbOp

/-- `LD r,r'` (R76), target then source. -/
def ldRegReg : Gpr → Gpr → Instr
  | .b, .b => .ld_B_B
  | .b, .c => .ld_B_C
  | .b, .d => .ld_B_D
  | .b, .e => .ld_B_E
  | .b, .h => .ld_B_H
  | .b, .l => .ld_B_L
  | .b, .a => .ld_B_A
  | .c, .b => .ld_C_B
  | .c, .c => .ld_C_C
  | .c, .d => .ld_C_D
  | .c, .e => .ld_C_E
  | .c, .h => .ld_C_H
  | .c, .l => .ld_C_L
  | .c, .a => .ld_C_A
  | .d, .b => .ld_D_B
  | .d, .c => .ld_D_C
  | .d, .d => .ld_D_D
  | .d, .e => .ld_D_E
  | .d, .h => .ld_D_H
  | .d, .l => .ld_D_L
  | .d, .a => .ld_D_A
  | .e, .b => .ld_E_B
  | .e, .c => .ld_E_C
  | .e, .d => .ld_E_D
  | .e, .e => .ld_E_E
  | .e, .h => .ld_E_H
  | .e, .l => .ld_E_L
  | .e, .a => .ld_E_A
  | .h, .b => .ld_H_B
  | .h, .c => .ld_H_C
  | .h, .d => .ld_H_D
  | .h, .e => .ld_H_E
  | .h, .h => .ld_H_H
  | .h, .l => .ld_H_L
  | .h, .a => .ld_H_A
  | .l, .b => .ld_L_B
  | .l, .c => .ld_L_C
  | .l, .d => .ld_L_D
  | .l, .e => .ld_L_E
  | .l, .h => .ld_L_H
  | .l, .l => .ld_L_L
  | .l, .a => .ld_L_A
  | .a, .b => .ld_A_B
  | .a, .c => .ld_A_C
  | .a, .d => .ld_A_D
  | .a, .e => .ld_A_E
  | .a, .h => .ld_A_H
  | .a, .l => .ld_A_L
  | .a, .a => .ld_A_A

/-- `LD r,d8` (R77). -/
def ldRegImm : Gpr → Instr
  | .b => .ld_B_d8
  | .c => .ld_C_d8
  | .d => .ld_D_d8
  | .e => .ld_E_d8
  | .h => .ld_H_d8
  | .l => .ld_L_d8
  | .a => .ld_A_d8

/-- `LD r,(HL)` (R78). -/
def ldRegAtHl : Gpr → Instr
  | .b => .ld_B_atHL
  | .c => .ld_C_atHL
  | .d => .ld_D_atHL
  | .e => .ld_E_atHL
  | .h => .ld_H_atHL
  | .l => .ld_L_atHL
  | .a => .ld_A_atHL

/-- `LD (HL),r` (R79). -/
def ldAtHlReg : Gpr → Instr
  | .b => .ld_atHL_B
  | .c => .ld_atHL_C
  | .d => .ld_atHL_D
  | .e => .ld_atHL_E
  | .h => .ld_atHL_H
  | .l => .ld_atHL_L
  | .a => .ld_atHL_A

/-- `XOR r` (R95). -/
def xorReg : Gpr → Instr
  | .b => .xor_B
  | .c => .xor_C
  | .d => .xor_D
  | .e => .xor_E
  | .h => .xor_H
  | .l => .xor_L
  | .a => .xor_A

/-- `ADD A,r` (R124). -/
def addReg : Gpr → Instr
  | .b => .add_A_B
  | .c => .add_A_C
  | .d => .add_A_D
  | .e => .add_A_E
  | .h => .add_A_H
  | .l => .add_A_L
  | .a => .add_A_A

/-- `INC r` (R105). -/
def incReg : Gpr → Instr
  | .b => .inc_B
  | .c => .inc_C
  | .d => .inc_D
  | .e => .inc_E
  | .h => .inc_H
  | .l => .inc_L
  | .a => .inc_A

/-- `DEC r` (R106). -/
def decReg : Gpr → Instr
  | .b => .dec_B
  | .c => .dec_C
  | .d => .dec_D
  | .e => .dec_E
  | .h => .dec_H
  | .l => .dec_L
  | .a => .dec_A

/-- `RL r` (R120). -/
def rlReg : Gpr → Instr
  | .b => .rl_B
  | .c => .rl_C
  | .d => .rl_D
  | .e => .rl_E
  | .h => .rl_H
  | .l => .rl_L
  | .a => .rl_A

/-- `BIT n,r` (R98). -/
def bitReg : Fin 8 → Gpr → Instr
  | 0, .b => .bit_0_B
  | 0, .c => .bit_0_C
  | 0, .d => .bit_0_D
  | 0, .e => .bit_0_E
  | 0, .h => .bit_0_H
  | 0, .l => .bit_0_L
  | 0, .a => .bit_0_A
  | 1, .b => .bit_1_B
  | 1, .c => .bit_1_C
  | 1, .d => .bit_1_D
  | 1, .e => .bit_1_E
  | 1, .h => .bit_1_H
  | 1, .l => .bit_1_L
  | 1, .a => .bit_1_A
  | 2, .b => .bit_2_B
  | 2, .c => .bit_2_C
  | 2, .d => .bit_2_D
  | 2, .e => .bit_2_E
  | 2, .h => .bit_2_H
  | 2, .l => .bit_2_L
  | 2, .a => .bit_2_A
  | 3, .b => .bit_3_B
  | 3, .c => .bit_3_C
  | 3, .d => .bit_3_D
  | 3, .e => .bit_3_E
  | 3, .h => .bit_3_H
  | 3, .l => .bit_3_L
  | 3, .a => .bit_3_A
  | 4, .b => .bit_4_B
  | 4, .c => .bit_4_C
  | 4, .d => .bit_4_D
  | 4, .e => .bit_4_E
  | 4, .h => .bit_4_H
  | 4, .l => .bit_4_L
  | 4, .a => .bit_4_A
  | 5, .b => .bit_5_B
  | 5, .c => .bit_5_C
  | 5, .d => .bit_5_D
  | 5, .e => .bit_5_E
  | 5, .h => .bit_5_H
  | 5, .l => .bit_5_L
  | 5, .a => .bit_5_A
  | 6, .b => .bit_6_B
  | 6, .c => .bit_6_C
  | 6, .d => .bit_6_D
  | 6, .e => .bit_6_E
  | 6, .h => .bit_6_H
  | 6, .l => .bit_6_L
  | 6, .a => .bit_6_A
  | 7, .b => .bit_7_B
  | 7, .c => .bit_7_C
  | 7, .d => .bit_7_D
  | 7, .e => .bit_7_E
  | 7, .h => .bit_7_H
  | 7, .l => .bit_7_L
  | 7, .a => .bit_7_A

/-- `LD rr,d16` (R71). -/
def ldPairImm : PairSp → Instr
  | .bc => .ld_BC_d16
  | .de => .ld_DE_d16
  | .hl => .ld_HL_d16
  | .sp => .ld_SP_d16

/-- `INC rr` (R107). -/
def incPair : PairSp → Instr
  | .bc => .inc_BC
  | .de => .inc_DE
  | .hl => .inc_HL
  | .sp => .inc_SP

/-- `DEC rr` (R108). -/
def decPair : PairSp → Instr
  | .bc => .dec_BC
  | .de => .dec_DE
  | .hl => .dec_HL
  | .sp => .dec_SP

/-- `PUSH rr` (R115). -/
def pushPair : PairAf → Instr
  | .bc => .push_BC
  | .de => .push_DE
  | .hl => .push_HL
  | .af => .push_AF

/-- `POP rr` (R116). -/
def popPair : PairAf → Instr
  | .bc => .pop_BC
  | .de => .pop_DE
  | .hl => .pop_HL
  | .af => .pop_AF

/-- `JR cc,e8` (R101, R102). -/
def jrCond : Cond → Instr
  | .nz => .jr_NZ
  | .z => .jr_Z

/-- The field code of an 8-bit register operand (R53); code 110 is no register. -/
def Gpr.code : Gpr → BitVec 3
  | .b => 0b000
  | .c => 0b001
  | .d => 0b010
  | .e => 0b011
  | .h => 0b100
  | .l => 0b101
  | .a => 0b111

/-- The 8-bit register operand a field code names (R53). -/
def Gpr.ofCode (code : BitVec 3) : Option Gpr :=
  [Gpr.b, .c, .d, .e, .h, .l, .a].find? fun r => r.code == code

/-- The field code of the 16-bit operand of LD rr,d16, INC rr and DEC rr (R53). -/
def PairSp.code : PairSp → BitVec 2
  | .bc => 0b00
  | .de => 0b01
  | .hl => 0b10
  | .sp => 0b11

/-- The field code of the 16-bit operand of PUSH and POP (R53). -/
def PairAf.code : PairAf → BitVec 2
  | .bc => 0b00
  | .de => 0b01
  | .hl => 0b10
  | .af => 0b11

/-- The field code of a jump condition (R53). -/
def Cond.code : Cond → BitVec 2
  | .nz => 0b00
  | .z => 0b01

end Sys2Proof
end

