-- ==== Sys2Proof/Machine/Unmapped.lean ====
section
/-!
DEFINITION. The rows of the table that are no instruction of their own: the unmapped encodings
(spec/60_exceptions.md R130) and the escape byte (spec/30_encoding.md R51).
-/
namespace Sys2Proof.Machine

/-- An unmapped encoding raises the fault (R130), with the state unchanged (R134). -/
def execUnmapped (op : Byte) (prefixed : Bool) (s : State) : Result := s.raiseUnimplemented op prefixed

/-- The operation of a byte of the prefixed table, by the field patterns of spec/30_encoding.md R53:
00010rrr is `RL r`, 01nnnrrr is `BIT n,r`, and no other pattern is mapped. -/
def prefixedOperation (op : Byte) : Option (Word → State → State) :=
  match Gpr.ofCode (op.extractLsb' 0 3) with
  | none => none
  | some r =>
    if op.extractLsb' 3 5 = 0b00010 then some (rotateLeft r)
    else if op.extractLsb' 6 2 = 0b01 then some (bitTest (op.extractLsb' 3 3).toFin r)
    else none

/-- The escape byte in opcode position (R51): it is consumed, the following byte is the opcode and is
looked up in the prefixed table. -/
def execEscape (s : State) : Result :=
  match prefixedOperation (s.read (s.opaddr true)) with
  | some operation => .next (operation (s.opaddr true) s)
  | none => s.raiseUnimplemented (s.read (s.opaddr true)) true

end Sys2Proof.Machine
end

