-- ==== Sys2Proof/Machine/Xor.lean ====
section
/-!
DEFINITION. Exclusive-or (spec/42_xor.md). Each shared operation takes the
address of the opcode byte, as the rules' pseudocode does; one meaning per instruction follows.
-/
namespace Sys2Proof.Machine

/-- `XOR r` (R95). -/
def xorA (r : Gpr) (opaddr : Word) (s : State) : State :=
  let result := s.reg .a ^^^ s.reg r
  ((s.setReg .a result).setFlags (xorFlags result)).setPc (opaddr + 1)

/-- `XOR B`, 0xA8 (R95). -/
def execXor_B (s : State) : Result := .next (xorA .b (s.opaddr false) s)

/-- `XOR C`, 0xA9 (R95). -/
def execXor_C (s : State) : Result := .next (xorA .c (s.opaddr false) s)

/-- `XOR D`, 0xAA (R95). -/
def execXor_D (s : State) : Result := .next (xorA .d (s.opaddr false) s)

/-- `XOR E`, 0xAB (R95). -/
def execXor_E (s : State) : Result := .next (xorA .e (s.opaddr false) s)

/-- `XOR H`, 0xAC (R95). -/
def execXor_H (s : State) : Result := .next (xorA .h (s.opaddr false) s)

/-- `XOR L`, 0xAD (R95). -/
def execXor_L (s : State) : Result := .next (xorA .l (s.opaddr false) s)

/-- `XOR A`, 0xAF (R95). -/
def execXor_A (s : State) : Result := .next (xorA .a (s.opaddr false) s)

end Sys2Proof.Machine
end

