-- ==== Sys2Proof/Machine/Dispatch.lean ====
section
/-! DEFINITION. One arm per constructor of Instr (spec/30_encoding.md R51, `Execute`). -/
namespace Sys2Proof.Machine

def exec (i : Instr) (s : State) : Host.Outcome State Fault Refusal :=
  match i with
  -- NOP (R70)
  | .nop => Sys2Proof.Machine.execNop s
  -- LD rr,d16 (R71)
  | .ld_BC_d16 => Sys2Proof.Machine.execLd_BC_d16 s
  | .ld_DE_d16 => Sys2Proof.Machine.execLd_DE_d16 s
  | .ld_HL_d16 => Sys2Proof.Machine.execLd_HL_d16 s
  | .ld_SP_d16 => Sys2Proof.Machine.execLd_SP_d16 s
  -- LD SP,HL (R72)
  | .ld_SP_HL => Sys2Proof.Machine.execLd_SP_HL s
  -- LD r,r' (R76)
  | .ld_B_B => Sys2Proof.Machine.execLd_B_B s
  | .ld_B_C => Sys2Proof.Machine.execLd_B_C s
  | .ld_B_D => Sys2Proof.Machine.execLd_B_D s
  | .ld_B_E => Sys2Proof.Machine.execLd_B_E s
  | .ld_B_H => Sys2Proof.Machine.execLd_B_H s
  | .ld_B_L => Sys2Proof.Machine.execLd_B_L s
  | .ld_B_A => Sys2Proof.Machine.execLd_B_A s
  | .ld_C_B => Sys2Proof.Machine.execLd_C_B s
  | .ld_C_C => Sys2Proof.Machine.execLd_C_C s
  | .ld_C_D => Sys2Proof.Machine.execLd_C_D s
  | .ld_C_E => Sys2Proof.Machine.execLd_C_E s
  | .ld_C_H => Sys2Proof.Machine.execLd_C_H s
  | .ld_C_L => Sys2Proof.Machine.execLd_C_L s
  | .ld_C_A => Sys2Proof.Machine.execLd_C_A s
  | .ld_D_B => Sys2Proof.Machine.execLd_D_B s
  | .ld_D_C => Sys2Proof.Machine.execLd_D_C s
  | .ld_D_D => Sys2Proof.Machine.execLd_D_D s
  | .ld_D_E => Sys2Proof.Machine.execLd_D_E s
  | .ld_D_H => Sys2Proof.Machine.execLd_D_H s
  | .ld_D_L => Sys2Proof.Machine.execLd_D_L s
  | .ld_D_A => Sys2Proof.Machine.execLd_D_A s
  | .ld_E_B => Sys2Proof.Machine.execLd_E_B s
  | .ld_E_C => Sys2Proof.Machine.execLd_E_C s
  | .ld_E_D => Sys2Proof.Machine.execLd_E_D s
  | .ld_E_E => Sys2Proof.Machine.execLd_E_E s
  | .ld_E_H => Sys2Proof.Machine.execLd_E_H s
  | .ld_E_L => Sys2Proof.Machine.execLd_E_L s
  | .ld_E_A => Sys2Proof.Machine.execLd_E_A s
  | .ld_H_B => Sys2Proof.Machine.execLd_H_B s
  | .ld_H_C => Sys2Proof.Machine.execLd_H_C s
  | .ld_H_D => Sys2Proof.Machine.execLd_H_D s
  | .ld_H_E => Sys2Proof.Machine.execLd_H_E s
  | .ld_H_H => Sys2Proof.Machine.execLd_H_H s
  | .ld_H_L => Sys2Proof.Machine.execLd_H_L s
  | .ld_H_A => Sys2Proof.Machine.execLd_H_A s
  | .ld_L_B => Sys2Proof.Machine.execLd_L_B s
  | .ld_L_C => Sys2Proof.Machine.execLd_L_C s
  | .ld_L_D => Sys2Proof.Machine.execLd_L_D s
  | .ld_L_E => Sys2Proof.Machine.execLd_L_E s
  | .ld_L_H => Sys2Proof.Machine.execLd_L_H s
  | .ld_L_L => Sys2Proof.Machine.execLd_L_L s
  | .ld_L_A => Sys2Proof.Machine.execLd_L_A s
  | .ld_A_B => Sys2Proof.Machine.execLd_A_B s
  | .ld_A_C => Sys2Proof.Machine.execLd_A_C s
  | .ld_A_D => Sys2Proof.Machine.execLd_A_D s
  | .ld_A_E => Sys2Proof.Machine.execLd_A_E s
  | .ld_A_H => Sys2Proof.Machine.execLd_A_H s
  | .ld_A_L => Sys2Proof.Machine.execLd_A_L s
  | .ld_A_A => Sys2Proof.Machine.execLd_A_A s
  -- LD r,d8 (R77)
  | .ld_B_d8 => Sys2Proof.Machine.execLd_B_d8 s
  | .ld_C_d8 => Sys2Proof.Machine.execLd_C_d8 s
  | .ld_D_d8 => Sys2Proof.Machine.execLd_D_d8 s
  | .ld_E_d8 => Sys2Proof.Machine.execLd_E_d8 s
  | .ld_H_d8 => Sys2Proof.Machine.execLd_H_d8 s
  | .ld_L_d8 => Sys2Proof.Machine.execLd_L_d8 s
  | .ld_A_d8 => Sys2Proof.Machine.execLd_A_d8 s
  -- LD r,(HL) (R78)
  | .ld_B_atHL => Sys2Proof.Machine.execLd_B_atHL s
  | .ld_C_atHL => Sys2Proof.Machine.execLd_C_atHL s
  | .ld_D_atHL => Sys2Proof.Machine.execLd_D_atHL s
  | .ld_E_atHL => Sys2Proof.Machine.execLd_E_atHL s
  | .ld_H_atHL => Sys2Proof.Machine.execLd_H_atHL s
  | .ld_L_atHL => Sys2Proof.Machine.execLd_L_atHL s
  | .ld_A_atHL => Sys2Proof.Machine.execLd_A_atHL s
  -- LD (HL),r (R79)
  | .ld_atHL_B => Sys2Proof.Machine.execLd_atHL_B s
  | .ld_atHL_C => Sys2Proof.Machine.execLd_atHL_C s
  | .ld_atHL_D => Sys2Proof.Machine.execLd_atHL_D s
  | .ld_atHL_E => Sys2Proof.Machine.execLd_atHL_E s
  | .ld_atHL_H => Sys2Proof.Machine.execLd_atHL_H s
  | .ld_atHL_L => Sys2Proof.Machine.execLd_atHL_L s
  | .ld_atHL_A => Sys2Proof.Machine.execLd_atHL_A s
  -- LD (HL),d8 (R80)
  | .ld_atHL_d8 => Sys2Proof.Machine.execLd_atHL_d8 s
  -- LD A,(BC) (R81)
  | .ld_A_atBC => Sys2Proof.Machine.execLd_A_atBC s
  -- LD A,(DE) (R82)
  | .ld_A_atDE => Sys2Proof.Machine.execLd_A_atDE s
  -- LD (BC),A (R83)
  | .ld_atBC_A => Sys2Proof.Machine.execLd_atBC_A s
  -- LD (DE),A (R84)
  | .ld_atDE_A => Sys2Proof.Machine.execLd_atDE_A s
  -- LD (HL+),A (R85)
  | .ld_atHLinc_A => Sys2Proof.Machine.execLd_atHLinc_A s
  -- LD (HL-),A (R86)
  | .ld_atHLdec_A => Sys2Proof.Machine.execLd_atHLdec_A s
  -- LD (C),A (R87)
  | .ld_atC_A => Sys2Proof.Machine.execLd_atC_A s
  -- LDH (a8),A (R88)
  | .ldh_a8_A => Sys2Proof.Machine.execLdh_a8_A s
  -- LD (a16),A (R89)
  | .ld_a16_A => Sys2Proof.Machine.execLd_a16_A s
  -- XOR r (R95)
  | .xor_B => Sys2Proof.Machine.execXor_B s
  | .xor_C => Sys2Proof.Machine.execXor_C s
  | .xor_D => Sys2Proof.Machine.execXor_D s
  | .xor_E => Sys2Proof.Machine.execXor_E s
  | .xor_H => Sys2Proof.Machine.execXor_H s
  | .xor_L => Sys2Proof.Machine.execXor_L s
  | .xor_A => Sys2Proof.Machine.execXor_A s
  -- BIT n,r (R98)
  | .bit_0_B => Sys2Proof.Machine.execBit_0_B s
  | .bit_0_C => Sys2Proof.Machine.execBit_0_C s
  | .bit_0_D => Sys2Proof.Machine.execBit_0_D s
  | .bit_0_E => Sys2Proof.Machine.execBit_0_E s
  | .bit_0_H => Sys2Proof.Machine.execBit_0_H s
  | .bit_0_L => Sys2Proof.Machine.execBit_0_L s
  | .bit_0_A => Sys2Proof.Machine.execBit_0_A s
  | .bit_1_B => Sys2Proof.Machine.execBit_1_B s
  | .bit_1_C => Sys2Proof.Machine.execBit_1_C s
  | .bit_1_D => Sys2Proof.Machine.execBit_1_D s
  | .bit_1_E => Sys2Proof.Machine.execBit_1_E s
  | .bit_1_H => Sys2Proof.Machine.execBit_1_H s
  | .bit_1_L => Sys2Proof.Machine.execBit_1_L s
  | .bit_1_A => Sys2Proof.Machine.execBit_1_A s
  | .bit_2_B => Sys2Proof.Machine.execBit_2_B s
  | .bit_2_C => Sys2Proof.Machine.execBit_2_C s
  | .bit_2_D => Sys2Proof.Machine.execBit_2_D s
  | .bit_2_E => Sys2Proof.Machine.execBit_2_E s
  | .bit_2_H => Sys2Proof.Machine.execBit_2_H s
  | .bit_2_L => Sys2Proof.Machine.execBit_2_L s
  | .bit_2_A => Sys2Proof.Machine.execBit_2_A s
  | .bit_3_B => Sys2Proof.Machine.execBit_3_B s
  | .bit_3_C => Sys2Proof.Machine.execBit_3_C s
  | .bit_3_D => Sys2Proof.Machine.execBit_3_D s
  | .bit_3_E => Sys2Proof.Machine.execBit_3_E s
  | .bit_3_H => Sys2Proof.Machine.execBit_3_H s
  | .bit_3_L => Sys2Proof.Machine.execBit_3_L s
  | .bit_3_A => Sys2Proof.Machine.execBit_3_A s
  | .bit_4_B => Sys2Proof.Machine.execBit_4_B s
  | .bit_4_C => Sys2Proof.Machine.execBit_4_C s
  | .bit_4_D => Sys2Proof.Machine.execBit_4_D s
  | .bit_4_E => Sys2Proof.Machine.execBit_4_E s
  | .bit_4_H => Sys2Proof.Machine.execBit_4_H s
  | .bit_4_L => Sys2Proof.Machine.execBit_4_L s
  | .bit_4_A => Sys2Proof.Machine.execBit_4_A s
  | .bit_5_B => Sys2Proof.Machine.execBit_5_B s
  | .bit_5_C => Sys2Proof.Machine.execBit_5_C s
  | .bit_5_D => Sys2Proof.Machine.execBit_5_D s
  | .bit_5_E => Sys2Proof.Machine.execBit_5_E s
  | .bit_5_H => Sys2Proof.Machine.execBit_5_H s
  | .bit_5_L => Sys2Proof.Machine.execBit_5_L s
  | .bit_5_A => Sys2Proof.Machine.execBit_5_A s
  | .bit_6_B => Sys2Proof.Machine.execBit_6_B s
  | .bit_6_C => Sys2Proof.Machine.execBit_6_C s
  | .bit_6_D => Sys2Proof.Machine.execBit_6_D s
  | .bit_6_E => Sys2Proof.Machine.execBit_6_E s
  | .bit_6_H => Sys2Proof.Machine.execBit_6_H s
  | .bit_6_L => Sys2Proof.Machine.execBit_6_L s
  | .bit_6_A => Sys2Proof.Machine.execBit_6_A s
  | .bit_7_B => Sys2Proof.Machine.execBit_7_B s
  | .bit_7_C => Sys2Proof.Machine.execBit_7_C s
  | .bit_7_D => Sys2Proof.Machine.execBit_7_D s
  | .bit_7_E => Sys2Proof.Machine.execBit_7_E s
  | .bit_7_H => Sys2Proof.Machine.execBit_7_H s
  | .bit_7_L => Sys2Proof.Machine.execBit_7_L s
  | .bit_7_A => Sys2Proof.Machine.execBit_7_A s
  -- JR NZ,e8 (R101)
  | .jr_NZ => Sys2Proof.Machine.execJr_NZ s
  -- JR Z,e8 (R102)
  | .jr_Z => Sys2Proof.Machine.execJr_Z s
  -- INC r (R105)
  | .inc_B => Sys2Proof.Machine.execInc_B s
  | .inc_C => Sys2Proof.Machine.execInc_C s
  | .inc_D => Sys2Proof.Machine.execInc_D s
  | .inc_E => Sys2Proof.Machine.execInc_E s
  | .inc_H => Sys2Proof.Machine.execInc_H s
  | .inc_L => Sys2Proof.Machine.execInc_L s
  | .inc_A => Sys2Proof.Machine.execInc_A s
  -- DEC r (R106)
  | .dec_B => Sys2Proof.Machine.execDec_B s
  | .dec_C => Sys2Proof.Machine.execDec_C s
  | .dec_D => Sys2Proof.Machine.execDec_D s
  | .dec_E => Sys2Proof.Machine.execDec_E s
  | .dec_H => Sys2Proof.Machine.execDec_H s
  | .dec_L => Sys2Proof.Machine.execDec_L s
  | .dec_A => Sys2Proof.Machine.execDec_A s
  -- INC rr (R107)
  | .inc_BC => Sys2Proof.Machine.execInc_BC s
  | .inc_DE => Sys2Proof.Machine.execInc_DE s
  | .inc_HL => Sys2Proof.Machine.execInc_HL s
  | .inc_SP => Sys2Proof.Machine.execInc_SP s
  -- DEC rr (R108)
  | .dec_BC => Sys2Proof.Machine.execDec_BC s
  | .dec_DE => Sys2Proof.Machine.execDec_DE s
  | .dec_HL => Sys2Proof.Machine.execDec_HL s
  | .dec_SP => Sys2Proof.Machine.execDec_SP s
  -- CALL a16 (R110)
  | .call_a16 => Sys2Proof.Machine.execCall_a16 s
  -- RET (R111)
  | .ret => Sys2Proof.Machine.execRet s
  -- PUSH rr (R115)
  | .push_BC => Sys2Proof.Machine.execPush_BC s
  | .push_DE => Sys2Proof.Machine.execPush_DE s
  | .push_HL => Sys2Proof.Machine.execPush_HL s
  | .push_AF => Sys2Proof.Machine.execPush_AF s
  -- POP rr (R116)
  | .pop_BC => Sys2Proof.Machine.execPop_BC s
  | .pop_DE => Sys2Proof.Machine.execPop_DE s
  | .pop_HL => Sys2Proof.Machine.execPop_HL s
  | .pop_AF => Sys2Proof.Machine.execPop_AF s
  -- RL r (R120)
  | .rl_B => Sys2Proof.Machine.execRl_B s
  | .rl_C => Sys2Proof.Machine.execRl_C s
  | .rl_D => Sys2Proof.Machine.execRl_D s
  | .rl_E => Sys2Proof.Machine.execRl_E s
  | .rl_H => Sys2Proof.Machine.execRl_H s
  | .rl_L => Sys2Proof.Machine.execRl_L s
  | .rl_A => Sys2Proof.Machine.execRl_A s
  -- CP d8 (R123)
  | .cp_d8 => Sys2Proof.Machine.execCp_d8 s
  -- ADD A,r (R124)
  | .add_A_B => Sys2Proof.Machine.execAdd_A_B s
  | .add_A_C => Sys2Proof.Machine.execAdd_A_C s
  | .add_A_D => Sys2Proof.Machine.execAdd_A_D s
  | .add_A_E => Sys2Proof.Machine.execAdd_A_E s
  | .add_A_H => Sys2Proof.Machine.execAdd_A_H s
  | .add_A_L => Sys2Proof.Machine.execAdd_A_L s
  | .add_A_A => Sys2Proof.Machine.execAdd_A_A s
  -- the escape byte (R51)
  | .escape => Sys2Proof.Machine.execEscape s
  -- the unmapped rows (R130)
  | .unmapped op prefixed => Sys2Proof.Machine.execUnmapped op prefixed s

end Sys2Proof.Machine
end

