-- ==== Sys2Proof/Machine/Fetch.lean ====
section
/-!
DEFINITION. Fetch, prefix and decode: the first half of `Step` (spec/30_encoding.md R51).
-/
namespace Sys2Proof.Machine

/-- The instruction at PC (R51): the byte at PC is the opcode, or the escape byte, after which the next
byte is the opcode and is looked up in the prefixed table. -/
def fetch (s : State) : Instr :=
  if s.read s.pc = Config.escapeByte then decodeOpcode (s.read (s.opaddr true)) true
  else decodeOpcode (s.read (s.opaddr false)) false

/-- Place bytes in memory from an address upward, wrapping at the top (spec/20_memory.md R34). -/
def State.writeBytes : State → Word → List Byte → State
  | s, _, [] => s
  | s, a, v :: vs => (s.write a v).writeBytes (a + 1) vs

end Sys2Proof.Machine
end

