-- ==== Sys2Proof/Machine/Step.lean ====
section
/-!
DEFINITION. One step of the core (spec/30_encoding.md R51).
-/
namespace Sys2Proof.Machine

/-- Fetch, decode and execute one instruction (R51). `exec` writes PC as the instruction's last action
(R59). The order of the accesses is not recorded (DEDUCED, safe: log entry 9). -/
def step (s : State) : Host.Outcome State Fault Refusal := exec (fetch s) s

/-- The state with a table row's bits, and zeros above them up to the longest instruction, stored where
the next step fetches (DESIGN CHOICE, safe: log entries 5 and 6). -/
def State.withFetchWord (s : State) (nbits w : Nat) : State := s.writeBytes s.pc (bytesOfNat 3 (w % 2 ^ nbits))

end Sys2Proof.Machine
end

