-- ==== Sys2Proof/Safety.lean ====
section
/-!
DEFINITION. The terms claims are made in: the invariant of the state, what an outcome answers, and
the frames (what two states have in common).
-/
namespace Sys2Proof.Machine

/-- The invariant of the state: its memory is in canonical form. -/
abbrev State.Inv (s : State) : Prop := Memory.wf s.mem = true

/-- The next state an outcome answers, if it answers one. -/
def nextOf : Result → Option State
  | .next s => some s
  | .fault _ => none
  | .refused _ => none

/-- The fault an outcome answers, if it answers one. -/
def faultOf : Result → Option Fault
  | .next _ => none
  | .fault r => some r
  | .refused _ => none

/-- No general register but those named differs. -/
def KeepsRegsBut (named : List Gpr) (s t : State) : Prop := ∀ q : Gpr, q ∉ named → t.reg q = s.reg q

/-- No byte of memory but those at the addresses named differs. -/
def KeepsMemoryBut (named : List Word) (s t : State) : Prop := ∀ a : Word, a ∉ named → t.read a = s.read a

/-- The general registers that make up a 16-bit operand of LD rr,d16, INC rr or DEC rr. -/
def halvesSp : PairSp → List Gpr
  | .bc => [.b, .c]
  | .de => [.d, .e]
  | .hl => [.h, .l]
  | .sp => []

/-- The general registers that make up a 16-bit operand of PUSH or POP; F is no general register. -/
def halvesAf : PairAf → List Gpr
  | .bc => [.b, .c]
  | .de => [.d, .e]
  | .hl => [.h, .l]
  | .af => [.a]

/-- The instructions that write SP (spec/10_state.md R15). -/
def writesSp : Instr → Bool
  | .ld_SP_d16 | .ld_SP_HL | .inc_SP | .dec_SP | .push_BC | .push_DE | .push_HL | .push_AF
  | .pop_BC | .pop_DE | .pop_HL | .pop_AF | .call_a16 | .ret => true
  | _ => false

/-- The instructions that write data memory or the stack (the table of spec/20_memory.md R30). -/
def writesMemory : Instr → Bool
  | .ld_atHL_B | .ld_atHL_C | .ld_atHL_D | .ld_atHL_E | .ld_atHL_H | .ld_atHL_L | .ld_atHL_A | .ld_atHL_d8
  | .ld_atBC_A | .ld_atDE_A | .ld_atHLinc_A | .ld_atHLdec_A | .ld_atC_A | .ldh_a8_A | .ld_a16_A
  | .push_BC | .push_DE | .push_HL | .push_AF | .call_a16 => true
  | _ => false

/-- Whether an instruction transfers control in a state: a taken jump, a call or a return
(spec/30_encoding.md R59). -/
def transfersControl (i : Instr) (f : Flags) : Bool :=
  match i with
  | .jr_NZ => !f.z
  | .jr_Z => f.z
  | .call_a16 | .ret => true
  | _ => false

/-- The instructions that write each flag, Z, N, H, C in this order (the table of spec/10_state.md R18). -/
def writesFlags : Instr → Flags
  | .add_A_B | .add_A_C | .add_A_D | .add_A_E | .add_A_H | .add_A_L | .add_A_A | .xor_B | .xor_C | .xor_D
  | .xor_E | .xor_H | .xor_L | .xor_A | .pop_AF => ⟨true, true, true, true⟩
  | .rl_B | .rl_C | .rl_D | .rl_E | .rl_H | .rl_L | .rl_A => ⟨true, false, false, true⟩
  | .bit_0_B | .bit_0_C | .bit_0_D | .bit_0_E | .bit_0_H | .bit_0_L | .bit_0_A | .bit_1_B | .bit_1_C
  | .bit_1_D | .bit_1_E | .bit_1_H | .bit_1_L | .bit_1_A | .bit_2_B | .bit_2_C | .bit_2_D | .bit_2_E
  | .bit_2_H | .bit_2_L | .bit_2_A | .bit_3_B | .bit_3_C | .bit_3_D | .bit_3_E | .bit_3_H | .bit_3_L
  | .bit_3_A | .bit_4_B | .bit_4_C | .bit_4_D | .bit_4_E | .bit_4_H | .bit_4_L | .bit_4_A | .bit_5_B
  | .bit_5_C | .bit_5_D | .bit_5_E | .bit_5_H | .bit_5_L | .bit_5_A | .bit_6_B | .bit_6_C | .bit_6_D
  | .bit_6_E | .bit_6_H | .bit_6_L | .bit_6_A | .bit_7_B | .bit_7_C | .bit_7_D | .bit_7_E | .bit_7_H
  | .bit_7_L | .bit_7_A | .cp_d8 => ⟨true, false, false, false⟩
  | _ => ⟨false, false, false, false⟩

/-- Execute one instruction a number of times, each on the state the one before left. -/
def execTimes : Nat → Instr → State → Option State
  | 0, _, s => some s
  | n + 1, i, s => (nextOf (exec i s)).bind (execTimes n i)

end Sys2Proof.Machine
end

