-- ==== Sys2Proof/Certificates/Slice0/Obligations.lean ====
section
/-!
DEFINITION. The statements for the provers. Each docstring names the rule of spec/ it formalises. A
statement about an instruction says that `exec` answers a next state, what the instruction writes there,
and what it leaves as it was; the families (`incReg r` and so on) name one constructor for each operand.
Each also says which opcodes the decoder reads as the instruction (`Gpr.code` and its like are the field
codes that `OpcodesFollowTheFieldPatterns` gives). Where a byte that was stored is read back, the memory
is in canonical form (`State.Inv`, the model's own choice of form, log entry 8), which reset meets and
every step keeps.
-/
open Sys2Proof Sys2Proof.Machine

/-! ## Reset, boot and the invariant -/

/-- R24: every register's reset value, the four pairs, and memory all zero. -/
def Obligations.ResetStateHoldsSpecValues : Prop :=
  let s := State.reset
  s.get8 .a = 0x01 ∧ s.get8 .f = 0xB0 ∧ s.f = ⟨true, false, true, true⟩ ∧ s.get8 .b = 0x00 ∧ s.get8 .c = 0x13 ∧
    s.get8 .d = 0x00 ∧ s.get8 .e = 0xD8 ∧ s.get8 .h = 0x01 ∧ s.get8 .l = 0x4D ∧ s.sp = 0xFFFE ∧ s.pc = 0x0000 ∧
    s.get16 .af = 0x01B0 ∧ s.get16 .bc = 0x0013 ∧ s.get16 .de = 0x00D8 ∧ s.get16 .hl = 0x014D ∧
    ∀ a : Word, s.read a = 0x00

/-- The reset state meets the invariant of the model (canonical memory). -/
def Obligations.ResetMeetsInvariant : Prop := State.reset.Inv

/-- Every step keeps the invariant, from every state that meets it. -/
def Obligations.EveryStepKeepsInvariant : Prop := ∀ s t : State, s.Inv → step s = .next t → t.Inv

/-- Memory in canonical form is determined by what its cells read as, so equal memories are equal data. -/
def Obligations.CanonicalMemoryIsItsReads : Prop :=
  ∀ s t : State, s.Inv → t.Inv → (∀ a : Word, t.read a = s.read a) → t.mem = s.mem

/-- An image that fits is copied to address 0 upward and changes no other cell and no register; a longer
one is rejected (spec/70_reset_and_hazards.md). That the load is defined on every state, not only after
reset and before the first step, and that the rejection is a refusal by name, are the model's choice (log
entry 7). -/
def Obligations.BootImageLoadCopiesOrRejects : Prop :=
  ∀ (image : List Byte) (s : State),
    (s.Inv → image.length ≤ 65536 →
      ∃ t, loadBootImage image s = .next t ∧ t = { s with mem := t.mem } ∧
        (∀ (i : Nat) (h : i < image.length), t.read (BitVec.ofNat 16 i) = image[i]) ∧
        ∀ a : Word, image.length ≤ a.toNat → t.read a = s.read a) ∧
    (65536 < image.length → loadBootImage image s = .refused .bootImageTooLong)

/-! ## Fetch, decode, encode -/

/-- R51: the byte at PC is decoded in the plain table, or is the escape byte and the byte after it is
decoded in the prefixed table whatever it is; a mapped opcode is executed and an unmapped one raises the
fault at the address the step began with. -/
def Obligations.StepFetchesDecodesExecutes : Prop :=
  ∀ s : State,
    (s.read s.pc ≠ 0xCB →
      (∀ i, decodeEntry (s.read s.pc) false = some i → step s = exec i s) ∧
      (decodeEntry (s.read s.pc) false = none →
        step s = .fault (.unimplementedOpcode s.pc (s.read s.pc) false))) ∧
    (s.read s.pc = 0xCB →
      (∀ i, decodeEntry (s.read (s.pc + 1)) true = some i → step s = exec i s) ∧
      (decodeEntry (s.read (s.pc + 1)) true = none →
        step s = .fault (.unimplementedOpcode s.pc (s.read (s.pc + 1)) true)))

/-- When the bytes at PC decode to an instruction, the step is that instruction's execution, and
nothing else. -/
def Obligations.StepRunsTheDecodedInstruction : Prop :=
  ∀ (s : State) (i : Instr), decode [s.read s.pc, s.read (s.pc + 1), s.read (s.pc + 2)] = .ok i → step s = exec i s

/-- Decode and encode agree: every well-formed instruction is decoded from its own opcode bytes, whatever
bytes follow; the escape byte's own row only where nothing follows it. -/
def Obligations.DecodeOfEncodeIsTheInstruction : Prop :=
  ∀ (i : Instr) (rest : List Byte), i.wf = true → (i = .escape → rest = []) → decode (encode i ++ rest) = .ok i

/-- What the decoder answers is well formed, and the bytes it read are that instruction's encoding. -/
def Obligations.DecodedInstructionEncodesBack : Prop :=
  ∀ (bytes : List Byte) (i : Instr), decode bytes = .ok i → i.wf = true ∧ ∃ rest, bytes = encode i ++ rest

/-- A well-formed instruction whose opcode bytes stand at PC, wrapping at the top of memory, is the one
the step executes. -/
def Obligations.EncodedInstructionAtPcIsExecuted : Prop :=
  ∀ (i : Instr) (s : State), i.wf = true → i ≠ .escape →
    (∀ (k : Nat) (h : k < (encode i).length), s.read (s.pc + BitVec.ofNat 16 k) = (encode i)[k]) →
    step s = exec i s

/-- R55, R56: which bytes of the two tables are unmapped, as the spec lists them; the byte 0xCB of the
plain table is the escape byte. -/
def Obligations.UnmappedBytesAreTheListedOnes : Prop :=
  (∀ op : Byte, decodeEntry op false = none ↔ op.toNat ∈
    [0x07, 0x08, 0x09, 0x0F, 0x10, 0x17, 0x18, 0x19, 0x1F, 0x27, 0x29, 0x2A, 0x2F, 0x30, 0x34, 0x35, 0x37, 0x38,
      0x39, 0x3A, 0x3F] ++
    [0x76, 0x86, 0x88, 0x89, 0x8A, 0x8B, 0x8C, 0x8D, 0x8E, 0x8F, 0x90, 0x91, 0x92, 0x93, 0x94, 0x95, 0x96, 0x97,
      0x98, 0x99, 0x9A, 0x9B, 0x9C, 0x9D, 0x9E, 0x9F, 0xA0, 0xA1, 0xA2, 0xA3, 0xA4, 0xA5, 0xA6] ++
    [0xA7, 0xAE, 0xB0, 0xB1, 0xB2, 0xB3, 0xB4, 0xB5, 0xB6, 0xB7, 0xB8, 0xB9, 0xBA, 0xBB, 0xBC, 0xBD, 0xBE, 0xBF,
      0xC0, 0xC2, 0xC3, 0xC4, 0xC6, 0xC7, 0xC8, 0xCA, 0xCC, 0xCE, 0xCF, 0xD0, 0xD2, 0xD3, 0xD4] ++
    [0xD6, 0xD7, 0xD8, 0xD9, 0xDA, 0xDB, 0xDC, 0xDD, 0xDE, 0xDF, 0xE3, 0xE4, 0xE6, 0xE7, 0xE8, 0xE9, 0xEB, 0xEC,
      0xED, 0xEE, 0xEF, 0xF0, 0xF2, 0xF3, 0xF4, 0xF6, 0xF7, 0xF8, 0xFA, 0xFB, 0xFC, 0xFD, 0xFF]) ∧
  (∀ op : Byte, decodeEntry op true = none ↔
    ¬(0x10 ≤ op.toNat ∧ op.toNat ≤ 0x15 ∨ op.toNat = 0x17 ∨
      0x40 ≤ op.toNat ∧ op.toNat ≤ 0x7F ∧ op.toNat ∉ [0x46, 0x4E, 0x56, 0x5E, 0x66, 0x6E, 0x76, 0x7E])) ∧
  decodeEntry 0xCB false = some .escape

/-- R53: the field codes, and the bit pattern of every row of the rule's table of patterns. -/
def Obligations.OpcodesFollowTheFieldPatterns : Prop :=
  [Gpr.b, .c, .d, .e, .h, .l, .a].map Gpr.code = [0, 1, 2, 3, 4, 5, 7] ∧
  [PairSp.bc, .de, .hl, .sp].map PairSp.code = [0, 1, 2, 3] ∧
  [PairAf.bc, .de, .hl, .af].map PairAf.code = [0, 1, 2, 3] ∧
  [Cond.nz, .z].map Cond.code = [0, 1] ∧
  (∀ r r' : Gpr,
    decodeEntry (0b01#2 ++ r.code ++ r'.code) false = some (ldRegReg r r') ∧
    decodeEntry (0b00#2 ++ r.code ++ 0b110#3) false = some (ldRegImm r) ∧
    decodeEntry (0b01#2 ++ r.code ++ 0b110#3) false = some (ldRegAtHl r) ∧
    decodeEntry (0b01110#5 ++ r.code) false = some (ldAtHlReg r) ∧
    decodeEntry (0b10000#5 ++ r.code) false = some (addReg r) ∧
    decodeEntry (0b10101#5 ++ r.code) false = some (xorReg r) ∧
    decodeEntry (0b00#2 ++ r.code ++ 0b100#3) false = some (incReg r) ∧
    decodeEntry (0b00#2 ++ r.code ++ 0b101#3) false = some (decReg r) ∧
    decodeEntry (0b00010#5 ++ r.code) true = some (rlReg r) ∧
    ∀ n : Fin 8, decodeEntry (0b01#2 ++ BitVec.ofFin (w := 3) n ++ r.code) true = some (bitReg n r)) ∧
  (∀ rr : PairSp,
    decodeEntry (0b00#2 ++ rr.code ++ 0b0001#4) false = some (ldPairImm rr) ∧
    decodeEntry (0b00#2 ++ rr.code ++ 0b0011#4) false = some (incPair rr) ∧
    decodeEntry (0b00#2 ++ rr.code ++ 0b1011#4) false = some (decPair rr)) ∧
  (∀ rr : PairAf,
    decodeEntry (0b11#2 ++ rr.code ++ 0b0101#4) false = some (pushPair rr) ∧
    decodeEntry (0b11#2 ++ rr.code ++ 0b0001#4) false = some (popPair rr)) ∧
  (∀ cc : Cond, decodeEntry (0b001#3 ++ cc.code ++ 0b000#3) false = some (jrCond cc)) ∧
  [0b00000000, 0b00110110, 0b00000010, 0b00010010, 0b00001010, 0b00011010, 0b00100010, 0b00110010, 0b11001001,
      0b11001011, 0b11001101, 0b11100000, 0b11100010, 0b11101010, 0b11111001, 0b11111110].map (decodeEntry · false) =
    [.nop, .ld_atHL_d8, .ld_atBC_A, .ld_atDE_A, .ld_A_atBC, .ld_A_atDE, .ld_atHLinc_A, .ld_atHLdec_A, .ret,
      .escape, .call_a16, .ldh_a8_A, .ld_atC_A, .ld_a16_A, .ld_SP_HL, .cp_d8].map some

/-- Words written out from the encodings: the three the document gives, and one of every other family. -/
def Obligations.WrittenOutWordsDecodeRight : Prop :=
  decode [0b00000000] = .ok .nop ∧
  decode [0b10101111] = .ok .xor_A ∧
  decode [0b11001011, 0b01111100] = .ok .bit_7_H ∧
  decode [0b00110001, 0xFE, 0xFF] = .ok .ld_SP_d16 ∧
  decode [0b11111001] = .ok .ld_SP_HL ∧
  decode [0b01111100] = .ok .ld_A_H ∧
  decode [0b00111110, 0x5A] = .ok .ld_A_d8 ∧
  decode [0b00110010] = .ok .ld_atHLdec_A ∧
  decode [0b11100010] = .ok .ld_atC_A ∧
  decode [0b11100000, 0x47] = .ok .ldh_a8_A ∧
  decode [0b00100000, 0xFB] = .ok .jr_NZ ∧
  decode [0b00111100] = .ok .inc_A ∧
  decode [0b00101011] = .ok .dec_HL ∧
  decode [0b11001101, 0x0C, 0x00] = .ok .call_a16 ∧
  decode [0b11001001] = .ok .ret ∧
  decode [0b11000101] = .ok .push_BC ∧
  decode [0b11110001] = .ok .pop_AF ∧
  decode [0b11001011, 0b00010001] = .ok .rl_C ∧
  decode [0b11111110, 0x02] = .ok .cp_d8 ∧
  decode [0b10000000] = .ok .add_A_B ∧
  decode [0b01110110] = .ok (.unmapped 0x76 false) ∧
  decode [0b11001011, 0b11001011] = .ok (.unmapped 0xCB true)

/-! ## The fault, and where instructions complete -/

/-- R130: an unmapped encoding raises `UnimplementedOpcode` with the PC the step began with, the opcode
byte and its table; the unmapped bytes are those the decoder has no entry for, and a step raises the
fault for nothing else. -/
def Obligations.UnmappedEncodingRaisesTheFault : Prop :=
  (∀ (op : Byte) (prefixed : Bool), isUnmapped op prefixed = true ↔ decodeEntry op prefixed = none) ∧
  (∀ (op : Byte) (prefixed : Bool) (s : State),
    exec (.unmapped op prefixed) s = .fault (.unimplementedOpcode s.pc op prefixed)) ∧
  (∀ s : State, s.read s.pc ≠ 0xCB → isUnmapped (s.read s.pc) false = true →
    step s = .fault (.unimplementedOpcode s.pc (s.read s.pc) false)) ∧
  (∀ s : State, s.read s.pc = 0xCB → isUnmapped (s.read (s.pc + 1)) true = true →
    step s = .fault (.unimplementedOpcode s.pc (s.read (s.pc + 1)) true)) ∧
  ∀ (s : State) (r : Fault), step s = .fault r →
    (s.read s.pc ≠ 0xCB ∧ isUnmapped (s.read s.pc) false = true ∧ r = .unimplementedOpcode s.pc (s.read s.pc) false) ∨
    (s.read s.pc = 0xCB ∧ isUnmapped (s.read (s.pc + 1)) true = true ∧
      r = .unimplementedOpcode s.pc (s.read (s.pc + 1)) true)

/-- R131, R133: every mapped instruction completes in every state; a step completes or raises the one
fault, and is never refused. -/
def Obligations.OnlyUnmappedEncodingsStop : Prop :=
  (∀ (i : Instr) (s : State), i ≠ .escape → (∀ op prefixed, i ≠ .unmapped op prefixed) → ∃ t, exec i s = .next t) ∧
  ∀ s : State, (∃ t, step s = .next t) ∨ ∃ op prefixed, step s = .fault (.unimplementedOpcode s.pc op prefixed)

/-- R51: the escape byte is consumed and the byte after it is executed from the prefixed table; the step
at an escape byte is the escape byte's own execution. -/
def Obligations.EscapeByteRunsThePrefixedOpcode : Prop :=
  ∀ s : State,
    (∀ i, decodeEntry (s.read (s.pc + 1)) true = some i → ∃ t, exec .escape s = .next t ∧ exec i s = .next t) ∧
    (decodeEntry (s.read (s.pc + 1)) true = none →
      exec .escape s = .fault (.unimplementedOpcode s.pc (s.read (s.pc + 1)) true)) ∧
    (s.read s.pc = 0xCB → step s = exec .escape s)

/-! ## The register file -/

/-- R11: a general register holds what was written, and a write changes no other register, no flag and
no memory. -/
def Obligations.GeneralRegistersHoldWhatIsWritten : Prop :=
  ∀ (s : State) (r : Gpr) (v : Byte),
    (s.set8 r.sel v).get8 r.sel = v ∧
    (∀ q : Reg8, q ≠ r.sel → (s.set8 r.sel v).get8 q = s.get8 q) ∧
    (s.set8 r.sel v).f = s.f ∧ (s.set8 r.sel v).sp = s.sp ∧ (s.set8 r.sel v).pc = s.pc ∧
    ∀ a : Word, (s.set8 r.sel v).read a = s.read a

/-- R12: F is Z, N, H, C in bits 7..4 with bits 3..0 zero, and a write stores bits 7..4 only. -/
def Obligations.FlagsRegisterIsFourBits : Prop :=
  ∀ (s : State) (v : Byte),
    (s.get8 .f).toNat = 128 * s.f.z.toNat + 64 * s.f.n.toNat + 32 * s.f.h.toNat + 16 * s.f.c.toNat ∧
    (s.set8 .f v).f = ⟨v.getLsbD 7, v.getLsbD 6, v.getLsbD 5, v.getLsbD 4⟩ ∧
    (s.set8 .f v).get8 .f = v &&& 0xF0 ∧
    (∀ r : Gpr, (s.set8 .f v).reg r = s.reg r) ∧ (s.set8 .f 0x0F).get8 .f = 0x00

/-- R13: BC, DE and HL are the first-named register above the second, and read back what was written. -/
def Obligations.PairsAreHighByteFirst : Prop :=
  ∀ (s : State) (v : Word),
    ((s.get16 .bc).toNat = 256 * s.b.toNat + s.c.toNat ∧ (s.get16 .de).toNat = 256 * s.d.toNat + s.e.toNat ∧
      (s.get16 .hl).toNat = 256 * s.h.toNat + s.l.toNat) ∧
    ((s.set16 .bc v).b.toNat = v.toNat / 256 ∧ (s.set16 .bc v).c.toNat = v.toNat % 256 ∧
      (s.set16 .de v).d.toNat = v.toNat / 256 ∧ (s.set16 .de v).e.toNat = v.toNat % 256 ∧
      (s.set16 .hl v).h.toNat = v.toNat / 256 ∧ (s.set16 .hl v).l.toNat = v.toNat % 256) ∧
    ((s.set16 .bc v).get16 .bc = v ∧ (s.set16 .de v).get16 .de = v ∧ (s.set16 .hl v).get16 .hl = v) ∧
    s.set16 .bc v = { s with b := (s.set16 .bc v).b, c := (s.set16 .bc v).c } ∧
    s.set16 .de v = { s with d := (s.set16 .de v).d, e := (s.set16 .de v).e } ∧
    s.set16 .hl v = { s with h := (s.set16 .hl v).h, l := (s.set16 .hl v).l }

/-- R14: AF is A above F, and a write drops bits 3..0. -/
def Obligations.PairAfDropsTheLowNibble : Prop :=
  ∀ (s : State) (v : Word),
    (s.get16 .af).toNat = 256 * s.a.toNat + (s.get8 .f).toNat ∧
    (s.set16 .af v).a.toNat = v.toNat / 256 ∧
    (s.set16 .af v).f = ⟨v.getLsbD 7, v.getLsbD 6, v.getLsbD 5, v.getLsbD 4⟩ ∧
    s.set16 .af v = { s with a := (s.set16 .af v).a, f := (s.set16 .af v).f } ∧
    (s.set16 .af v).get16 .af = v &&& 0xFFF0 ∧ (s.set16 .af 0x1234).get16 .af = 0x1230

/-! ## Memory -/

/-- R32: a two-byte read has its low byte at the address and its high byte at the next, modulo 65536. -/
def Obligations.WordReadIsLittleEndian : Prop :=
  ∀ (s : State) (a : Word),
    (s.readWord a).toNat =
      256 * (s.read (BitVec.ofNat 16 ((a.toNat + 1) % 65536))).toNat + (s.read a).toNat

/-- R33: a byte write sets its cell and changes no other cell and no register; a two-byte write is the
low byte at the address, then the high byte at the next. -/
def Obligations.WriteSetsItsCellsOnly : Prop :=
  ∀ (s : State) (a : Word) (v : Byte) (w : Word), s.Inv →
    ((s.write a v).read a = v ∧ (∀ b : Word, b ≠ a → (s.write a v).read b = s.read b) ∧
      s.write a v = { s with mem := (s.write a v).mem }) ∧
    ((s.writeWord a w).read a).toNat = w.toNat % 256 ∧
    ((s.writeWord a w).read (a + 1)).toNat = w.toNat / 256 ∧
    (∀ b : Word, b ≠ a → b ≠ a + 1 → (s.writeWord a w).read b = s.read b) ∧
    s.writeWord a w = { s with mem := (s.writeWord a w).mem } ∧ (s.writeWord a w).readWord a = w

/-- R37: writing a cell the same value twice is the same as once, and writing back what a cell holds
changes nothing. -/
def Obligations.RewritingACellIsNoChange : Prop :=
  ∀ (s : State) (a : Word) (v : Byte), s.Inv →
    (s.write a v).write a v = s.write a v ∧ s.write a (s.read a) = s

/-- R42: a store into the byte after the storing instruction is what the next step fetches and executes. -/
def Obligations.StoredByteIsTheNextFetched : Prop :=
  ∀ s : State, s.Inv → s.read s.pc = 0x77 → s.get16 .hl = s.pc + 1 → s.reg .a ≠ 0xCB →
    ∃ t, step s = .next t ∧ t.pc = s.pc + 1 ∧ step t = exec (decodeOpcode (s.reg .a) false) t

/-! ## No-op and loads -/

/-- R70: NOP advances PC by one and changes nothing else. -/
def Obligations.NopOnlyAdvancesPc : Prop :=
  decodeEntry 0x00 false = some .nop ∧
  ∀ s : State, exec .nop s = .next { s with pc := s.pc + 1 }

/-- R71: LD rr,d16 loads the pair with the little-endian immediate and changes nothing else but PC. -/
def Obligations.LoadPairImmediate : Prop :=
  (∀ rr : PairSp, decodeEntry (0b00#2 ++ rr.code ++ 0b0001#4) false = some (ldPairImm rr)) ∧
  ∀ (rr : PairSp) (s : State), ∃ t, exec (ldPairImm rr) s = .next t ∧
    (t.get16 rr.sel).toNat = 256 * (s.read (s.pc + 2)).toNat + (s.read (s.pc + 1)).toNat ∧
    KeepsRegsBut (halvesSp rr) s t ∧ (rr ≠ .sp → t.sp = s.sp) ∧ t.f = s.f ∧ t.pc = s.pc + 3 ∧ KeepsMemoryBut [] s t

/-- R72: LD SP,HL copies HL to SP and changes nothing else but PC. -/
def Obligations.LoadSpFromHl : Prop :=
  decodeEntry 0xF9 false = some .ld_SP_HL ∧
  ∀ s : State, ∃ t, exec .ld_SP_HL s = .next t ∧ t.sp.toNat = 256 * s.h.toNat + s.l.toNat ∧
    KeepsRegsBut [] s t ∧ t.f = s.f ∧ t.pc = s.pc + 1 ∧ KeepsMemoryBut [] s t

/-- R76: LD r,r' copies a register to a register and changes nothing else but PC. -/
def Obligations.LoadRegisterFromRegister : Prop :=
  (∀ r r' : Gpr, decodeEntry (0b01#2 ++ r.code ++ r'.code) false = some (ldRegReg r r')) ∧
  ∀ (r r' : Gpr) (s : State), ∃ t, exec (ldRegReg r r') s = .next t ∧
    t.reg r = s.reg r' ∧ KeepsRegsBut [r] s t ∧ t.f = s.f ∧ t.sp = s.sp ∧ t.pc = s.pc + 1 ∧ KeepsMemoryBut [] s t

/-- R77: LD r,d8 loads the byte after the opcode and changes nothing else but PC. -/
def Obligations.LoadRegisterImmediate : Prop :=
  (∀ r : Gpr, decodeEntry (0b00#2 ++ r.code ++ 0b110#3) false = some (ldRegImm r)) ∧
  ∀ (r : Gpr) (s : State), ∃ t, exec (ldRegImm r) s = .next t ∧
    t.reg r = s.read (s.pc + 1) ∧ KeepsRegsBut [r] s t ∧ t.f = s.f ∧ t.sp = s.sp ∧ t.pc = s.pc + 2 ∧
    KeepsMemoryBut [] s t

/-- R78: LD r,(HL) loads the cell at the HL before the instruction and changes nothing else but PC. -/
def Obligations.LoadRegisterFromHl : Prop :=
  (∀ r : Gpr, decodeEntry (0b01#2 ++ r.code ++ 0b110#3) false = some (ldRegAtHl r)) ∧
  ∀ (r : Gpr) (s : State), ∃ t, exec (ldRegAtHl r) s = .next t ∧
    t.reg r = s.read (s.get16 .hl) ∧ KeepsRegsBut [r] s t ∧ t.f = s.f ∧ t.sp = s.sp ∧ t.pc = s.pc + 1 ∧
    KeepsMemoryBut [] s t

/-- R81, R82: LD A,(BC) and LD A,(DE) load A from the cell at the pair and change nothing else but PC. -/
def Obligations.LoadAFromBcAndDe : Prop :=
  decodeEntry 0x0A false = some .ld_A_atBC ∧ decodeEntry 0x1A false = some .ld_A_atDE ∧
  ∀ s : State,
    (∃ t, exec .ld_A_atBC s = .next t ∧ t.reg .a = s.read (s.get16 .bc) ∧ KeepsRegsBut [.a] s t ∧ t.f = s.f ∧
      t.sp = s.sp ∧ t.pc = s.pc + 1 ∧ KeepsMemoryBut [] s t) ∧
    (∃ t, exec .ld_A_atDE s = .next t ∧ t.reg .a = s.read (s.get16 .de) ∧ KeepsRegsBut [.a] s t ∧ t.f = s.f ∧
      t.sp = s.sp ∧ t.pc = s.pc + 1 ∧ KeepsMemoryBut [] s t)

/-- R79, R80: LD (HL),r and LD (HL),d8 store at HL and change no other byte, no register and no flag. -/
def Obligations.StoreAtHl : Prop :=
  (∀ r : Gpr, decodeEntry (0b01110#5 ++ r.code) false = some (ldAtHlReg r)) ∧
  decodeEntry 0x36 false = some .ld_atHL_d8 ∧
  ∀ s : State,
    (∀ r : Gpr, ∃ t, exec (ldAtHlReg r) s = .next t ∧ (s.Inv → t.read (s.get16 .hl) = s.reg r) ∧
      KeepsMemoryBut [s.get16 .hl] s t ∧ KeepsRegsBut [] s t ∧ t.f = s.f ∧ t.sp = s.sp ∧ t.pc = s.pc + 1) ∧
    (∃ t, exec .ld_atHL_d8 s = .next t ∧ (s.Inv → t.read (s.get16 .hl) = s.read (s.pc + 1)) ∧
      KeepsMemoryBut [s.get16 .hl] s t ∧ KeepsRegsBut [] s t ∧ t.f = s.f ∧ t.sp = s.sp ∧ t.pc = s.pc + 2)

/-- R83, R84: LD (BC),A and LD (DE),A store A at the pair and change no other byte, no register and no
flag. -/
def Obligations.StoreAAtBcAndDe : Prop :=
  decodeEntry 0x02 false = some .ld_atBC_A ∧ decodeEntry 0x12 false = some .ld_atDE_A ∧
  ∀ s : State,
    (∃ t, exec .ld_atBC_A s = .next t ∧ (s.Inv → t.read (s.get16 .bc) = s.reg .a) ∧
      KeepsMemoryBut [s.get16 .bc] s t ∧ KeepsRegsBut [] s t ∧ t.f = s.f ∧ t.sp = s.sp ∧ t.pc = s.pc + 1) ∧
    (∃ t, exec .ld_atDE_A s = .next t ∧ (s.Inv → t.read (s.get16 .de) = s.reg .a) ∧
      KeepsMemoryBut [s.get16 .de] s t ∧ KeepsRegsBut [] s t ∧ t.f = s.f ∧ t.sp = s.sp ∧ t.pc = s.pc + 1)

/-- R85, R86: LD (HL+),A and LD (HL-),A store A at the old HL, then step HL by one, modulo 65536, and
change nothing else but PC. -/
def Obligations.StoreAAtHlAndStepHl : Prop :=
  decodeEntry 0x22 false = some .ld_atHLinc_A ∧ decodeEntry 0x32 false = some .ld_atHLdec_A ∧
  ∀ s : State,
    (∃ t, exec .ld_atHLinc_A s = .next t ∧ (s.Inv → t.read (s.get16 .hl) = s.reg .a) ∧
      (t.get16 .hl).toNat = ((s.get16 .hl).toNat + 1) % 65536 ∧ KeepsMemoryBut [s.get16 .hl] s t ∧
      KeepsRegsBut [.h, .l] s t ∧ t.f = s.f ∧ t.sp = s.sp ∧ t.pc = s.pc + 1) ∧
    (∃ t, exec .ld_atHLdec_A s = .next t ∧ (s.Inv → t.read (s.get16 .hl) = s.reg .a) ∧
      (t.get16 .hl).toNat = ((s.get16 .hl).toNat + 65535) % 65536 ∧ KeepsMemoryBut [s.get16 .hl] s t ∧
      KeepsRegsBut [.h, .l] s t ∧ t.f = s.f ∧ t.sp = s.sp ∧ t.pc = s.pc + 1)

/-- R87, R88: LD (C),A and LDH (a8),A store A in the page at 0xFF00, at the unsigned offset, and change
no other byte, no register and no flag. -/
def Obligations.StoreAInTheHighPage : Prop :=
  decodeEntry 0xE2 false = some .ld_atC_A ∧ decodeEntry 0xE0 false = some .ldh_a8_A ∧
  ∀ s : State,
    (∃ t, exec .ld_atC_A s = .next t ∧ (s.Inv → t.read (BitVec.ofNat 16 (0xFF00 + s.c.toNat)) = s.reg .a) ∧
      KeepsMemoryBut [BitVec.ofNat 16 (0xFF00 + s.c.toNat)] s t ∧ KeepsRegsBut [] s t ∧ t.f = s.f ∧ t.sp = s.sp ∧
      t.pc = s.pc + 1) ∧
    (∃ t, exec .ldh_a8_A s = .next t ∧
      (s.Inv → t.read (BitVec.ofNat 16 (0xFF00 + (s.read (s.pc + 1)).toNat)) = s.reg .a) ∧
      KeepsMemoryBut [BitVec.ofNat 16 (0xFF00 + (s.read (s.pc + 1)).toNat)] s t ∧ KeepsRegsBut [] s t ∧ t.f = s.f ∧
      t.sp = s.sp ∧ t.pc = s.pc + 2)

/-- R89: LD (a16),A stores A at the little-endian immediate and changes no other byte, no register and no
flag. -/
def Obligations.StoreAAtAbsoluteAddress : Prop :=
  decodeEntry 0xEA false = some .ld_a16_A ∧
  ∀ s : State,
    let a16 : Word := BitVec.ofNat 16 (256 * (s.read (s.pc + 2)).toNat + (s.read (s.pc + 1)).toNat)
    ∃ t, exec .ld_a16_A s = .next t ∧ (s.Inv → t.read a16 = s.reg .a) ∧ KeepsMemoryBut [a16] s t ∧
      KeepsRegsBut [] s t ∧ t.f = s.f ∧ t.sp = s.sp ∧ t.pc = s.pc + 3

/-! ## Arithmetic, logic, bit test and rotate -/

/-- R95: XOR r writes A and all four flags, and nothing else but PC. -/
def Obligations.XorWritesAAndFlags : Prop :=
  (∀ r : Gpr, decodeEntry (0b10101#5 ++ r.code) false = some (xorReg r)) ∧
  ∀ (r : Gpr) (s : State), ∃ t, exec (xorReg r) s = .next t ∧
    t.reg .a = s.reg .a ^^^ s.reg r ∧
    (t.f.z = true ↔ s.reg .a ^^^ s.reg r = 0) ∧ t.f.n = false ∧ t.f.h = false ∧ t.f.c = false ∧
    KeepsRegsBut [.a] s t ∧ t.sp = s.sp ∧ t.pc = s.pc + 1 ∧ KeepsMemoryBut [] s t

/-- R98: BIT n,r writes the complement of the bit to Z, and nothing else but PC. -/
def Obligations.BitTestWritesZOnly : Prop :=
  (∀ (n : Fin 8) (r : Gpr), decodeEntry (0b01#2 ++ BitVec.ofFin (w := 3) n ++ r.code) true = some (bitReg n r)) ∧
  ∀ (n : Fin 8) (r : Gpr) (s : State), ∃ t, exec (bitReg n r) s = .next t ∧
    (t.f.z = true ↔ (s.reg r).toNat / 2 ^ n.val % 2 = 0) ∧ t.f.n = s.f.n ∧ t.f.h = s.f.h ∧ t.f.c = s.f.c ∧
    KeepsRegsBut [] s t ∧ t.sp = s.sp ∧ t.pc = s.pc + 2 ∧ KeepsMemoryBut [] s t

/-- R105, R106: INC r and DEC r step a register by one modulo 256 and write no flag, and nothing else
but PC. -/
def Obligations.IncDecRegisterWritesNoFlag : Prop :=
  (∀ r : Gpr, decodeEntry (0b00#2 ++ r.code ++ 0b100#3) false = some (incReg r) ∧
    decodeEntry (0b00#2 ++ r.code ++ 0b101#3) false = some (decReg r)) ∧
  ∀ (r : Gpr) (s : State),
    (∃ t, exec (incReg r) s = .next t ∧ (t.reg r).toNat = ((s.reg r).toNat + 1) % 256 ∧
      KeepsRegsBut [r] s t ∧ t.f = s.f ∧ t.sp = s.sp ∧ t.pc = s.pc + 1 ∧ KeepsMemoryBut [] s t) ∧
    (∃ t, exec (decReg r) s = .next t ∧ (t.reg r).toNat = ((s.reg r).toNat + 255) % 256 ∧
      KeepsRegsBut [r] s t ∧ t.f = s.f ∧ t.sp = s.sp ∧ t.pc = s.pc + 1 ∧ KeepsMemoryBut [] s t)

/-- R107, R108: INC rr and DEC rr step a pair or SP by one modulo 65536 and write no flag, and nothing
else but PC. -/
def Obligations.IncDecPairWritesNoFlag : Prop :=
  (∀ rr : PairSp, decodeEntry (0b00#2 ++ rr.code ++ 0b0011#4) false = some (incPair rr) ∧
    decodeEntry (0b00#2 ++ rr.code ++ 0b1011#4) false = some (decPair rr)) ∧
  ∀ (rr : PairSp) (s : State),
    (∃ t, exec (incPair rr) s = .next t ∧ (t.get16 rr.sel).toNat = ((s.get16 rr.sel).toNat + 1) % 65536 ∧
      KeepsRegsBut (halvesSp rr) s t ∧ (rr ≠ .sp → t.sp = s.sp) ∧ t.f = s.f ∧ t.pc = s.pc + 1 ∧
      KeepsMemoryBut [] s t) ∧
    (∃ t, exec (decPair rr) s = .next t ∧ (t.get16 rr.sel).toNat = ((s.get16 rr.sel).toNat + 65535) % 65536 ∧
      KeepsRegsBut (halvesSp rr) s t ∧ (rr ≠ .sp → t.sp = s.sp) ∧ t.f = s.f ∧ t.pc = s.pc + 1 ∧
      KeepsMemoryBut [] s t)

/-- R120: RL r rotates the register through C, writes Z and C, and nothing else but PC. -/
def Obligations.RotateLeftThroughCarry : Prop :=
  (∀ r : Gpr, decodeEntry (0b00010#5 ++ r.code) true = some (rlReg r)) ∧
  ∀ (r : Gpr) (s : State), ∃ t, exec (rlReg r) s = .next t ∧
    (t.reg r).toNat = (2 * (s.reg r).toNat + s.f.c.toNat) % 256 ∧
    (t.f.c = true ↔ 128 ≤ (s.reg r).toNat) ∧ (t.f.z = true ↔ t.reg r = 0) ∧ t.f.n = s.f.n ∧ t.f.h = s.f.h ∧
    KeepsRegsBut [r] s t ∧ t.sp = s.sp ∧ t.pc = s.pc + 2 ∧ KeepsMemoryBut [] s t

/-- R120: nine successive RL r restore the register and C. -/
def Obligations.NineRotationsRestore : Prop :=
  ∀ (r : Gpr) (s : State), ∃ t, execTimes 9 (rlReg r) s = some t ∧ t.reg r = s.reg r ∧ t.f.c = s.f.c

/-- R123: CP d8 writes equality with A to Z, and nothing else but PC. -/
def Obligations.CompareWritesZOnly : Prop :=
  decodeEntry 0xFE false = some .cp_d8 ∧
  ∀ s : State, ∃ t, exec .cp_d8 s = .next t ∧
    (t.f.z = true ↔ s.read (s.pc + 1) = s.reg .a) ∧ t.f.n = s.f.n ∧ t.f.h = s.f.h ∧ t.f.c = s.f.c ∧
    KeepsRegsBut [] s t ∧ t.sp = s.sp ∧ t.pc = s.pc + 2 ∧ KeepsMemoryBut [] s t

/-- R124: ADD A,r writes the wrapped sum to A and all four flags, and nothing else but PC. -/
def Obligations.AddWritesSumAndFlags : Prop :=
  (∀ r : Gpr, decodeEntry (0b10000#5 ++ r.code) false = some (addReg r)) ∧
  ∀ (r : Gpr) (s : State), ∃ t, exec (addReg r) s = .next t ∧
    (t.reg .a).toNat = ((s.reg .a).toNat + (s.reg r).toNat) % 256 ∧
    (t.f.z = true ↔ t.reg .a = 0) ∧ t.f.n = false ∧
    (t.f.h = true ↔ 15 < (s.reg .a).toNat % 16 + (s.reg r).toNat % 16) ∧
    (t.f.c = true ↔ 255 < (s.reg .a).toNat + (s.reg r).toNat) ∧
    KeepsRegsBut [.a] s t ∧ t.sp = s.sp ∧ t.pc = s.pc + 1 ∧ KeepsMemoryBut [] s t

/-! ## Control transfer and the stack -/

/-- R100, R101, R102: JR adds the signed displacement to the address of the following instruction when its
condition holds, falls through otherwise, and changes nothing but PC. -/
def Obligations.RelativeJumpChangesPcOnly : Prop :=
  decodeEntry 0x20 false = some .jr_NZ ∧ decodeEntry 0x28 false = some .jr_Z ∧
  ∀ s : State,
    let fallthrough : Word := s.pc + 2
    let target : Word := BitVec.ofInt 16 ((s.pc.toNat : Int) + 2 + (s.read (s.pc + 1)).toInt)
    exec .jr_NZ s = .next { s with pc := if s.f.z = false then target else fallthrough } ∧
    exec .jr_Z s = .next { s with pc := if s.f.z = true then target else fallthrough }

/-- R117: Push16 writes the high byte at SP - 1 and the low byte at SP - 2 and no other cell, and lowers SP
by two; Pop16 reads the low byte at SP and the high byte at SP + 1 and raises SP by two; a pop after a
push gives the value back. -/
def Obligations.StackPrimitives : Prop :=
  (∀ (s : State) (v : Word),
    (s.push16 v).sp = s.sp - 2 ∧
    (s.Inv → ((s.push16 v).read (s.sp - 1)).toNat = v.toNat / 256 ∧
      ((s.push16 v).read (s.sp - 2)).toNat = v.toNat % 256) ∧
    KeepsMemoryBut [s.sp - 1, s.sp - 2] s (s.push16 v) ∧
    s.push16 v = { s with sp := (s.push16 v).sp, mem := (s.push16 v).mem }) ∧
  (∀ s : State,
    s.pop16.1.toNat = 256 * (s.read (s.sp + 1)).toNat + (s.read s.sp).toNat ∧ s.pop16.2 = { s with sp := s.sp + 2 }) ∧
  ∀ (s : State) (v : Word), s.Inv → (s.push16 v).pop16.1 = v ∧ (s.push16 v).pop16.2.sp = s.sp

/-- R110: CALL pushes the address of the following instruction, high byte above low byte, and goes to the
little-endian immediate; it changes nothing else but SP. -/
def Obligations.CallPushesReturnAddress : Prop :=
  decodeEntry 0xCD false = some .call_a16 ∧
  ∀ s : State, ∃ t, exec .call_a16 s = .next t ∧
    t.pc.toNat = 256 * (s.read (s.pc + 2)).toNat + (s.read (s.pc + 1)).toNat ∧
    t.sp = s.sp - 2 ∧
    (s.Inv → (t.read (s.sp - 1)).toNat = (s.pc + 3).toNat / 256 ∧ (t.read (s.sp - 2)).toNat = (s.pc + 3).toNat % 256) ∧
    KeepsMemoryBut [s.sp - 1, s.sp - 2] s t ∧ KeepsRegsBut [] s t ∧ t.f = s.f

/-- R111: RET goes to exactly the 16-bit value at the top of the stack and changes nothing else but SP. -/
def Obligations.ReturnPopsPc : Prop :=
  decodeEntry 0xC9 false = some .ret ∧
  ∀ s : State, ∃ t, exec .ret s = .next t ∧
    t.pc.toNat = 256 * (s.read (s.sp + 1)).toNat + (s.read s.sp).toNat ∧ t.sp = s.sp + 2 ∧
    KeepsRegsBut [] s t ∧ t.f = s.f ∧ KeepsMemoryBut [] s t

/-- R110, R111: a RET after a CALL continues after the CALL, with SP and the registers as before it. -/
def Obligations.ReturnAfterCallContinuesAfterIt : Prop :=
  ∀ s : State, s.Inv → ∃ t u, exec .call_a16 s = .next t ∧ exec .ret t = .next u ∧
    u.pc = s.pc + 3 ∧ u.sp = s.sp ∧ KeepsRegsBut [] s u ∧ u.f = s.f

/-- R115: PUSH rr stores the pair below SP, high byte above low byte, and changes nothing else but SP and
PC; the byte PUSH AF stores for F has a zero low nibble. -/
def Obligations.PushStoresThePair : Prop :=
  (∀ rr : PairAf, decodeEntry (0b11#2 ++ rr.code ++ 0b0101#4) false = some (pushPair rr)) ∧
  ∀ (rr : PairAf) (s : State), ∃ t, exec (pushPair rr) s = .next t ∧ t.sp = s.sp - 2 ∧
    (s.Inv → (t.read (s.sp - 1)).toNat = (s.get16 rr.sel).toNat / 256 ∧
      (t.read (s.sp - 2)).toNat = (s.get16 rr.sel).toNat % 256 ∧
      (rr = .af → (t.read (s.sp - 2)).toNat % 16 = 0)) ∧
    KeepsMemoryBut [s.sp - 1, s.sp - 2] s t ∧ KeepsRegsBut [] s t ∧ t.f = s.f ∧ t.pc = s.pc + 1

/-- R116: POP rr loads the pair from the stack, low byte first; only POP AF writes flags, from bits 7..4 of
the low byte; nothing else changes but SP and PC. -/
def Obligations.PopLoadsThePair : Prop :=
  (∀ rr : PairAf, decodeEntry (0b11#2 ++ rr.code ++ 0b0001#4) false = some (popPair rr)) ∧
  ∀ (rr : PairAf) (s : State), ∃ t, exec (popPair rr) s = .next t ∧ t.sp = s.sp + 2 ∧
    (rr ≠ .af → (t.get16 rr.sel).toNat = 256 * (s.read (s.sp + 1)).toNat + (s.read s.sp).toNat ∧ t.f = s.f) ∧
    (rr = .af → t.reg .a = s.read (s.sp + 1) ∧
      t.f = ⟨(s.read s.sp).getLsbD 7, (s.read s.sp).getLsbD 6, (s.read s.sp).getLsbD 5, (s.read s.sp).getLsbD 4⟩) ∧
    KeepsRegsBut (halvesAf rr) s t ∧ t.pc = s.pc + 1 ∧ KeepsMemoryBut [] s t

/-- R118: a push and a pop of the same pair restore it and SP; a pop of another of BC, DE, HL copies the
pair. -/
def Obligations.PopAfterPushRestoresOrCopies : Prop :=
  ∀ (rr rr' : PairAf) (s : State), s.Inv → ∃ t u, exec (pushPair rr) s = .next t ∧ exec (popPair rr') t = .next u ∧
    u.sp = s.sp ∧ (rr' = rr → u.get16 rr.sel = s.get16 rr.sel) ∧ (rr' ≠ .af → u.get16 rr'.sel = s.get16 rr.sel)

/-! ## Whole-machine rules -/

/-- R18: each flag is changed only by the instructions the table of writers names for it. The escape byte's
own row stands for the prefixed instruction after it (`EscapeByteRunsThePrefixedOpcode`). -/
def Obligations.OnlyTheListedInstructionsWriteFlags : Prop :=
  ∀ (i : Instr) (s t : State), i ≠ .escape → exec i s = .next t →
    ((writesFlags i).z = false → t.f.z = s.f.z) ∧ ((writesFlags i).n = false → t.f.n = s.f.n) ∧
    ((writesFlags i).h = false → t.f.h = s.f.h) ∧ ((writesFlags i).c = false → t.f.c = s.f.c)

/-- R15: SP is changed only by the instructions the rule lists; the escape byte's own row stands for the
prefixed instruction after it. -/
def Obligations.OnlyTheListedInstructionsWriteSp : Prop :=
  ∀ (i : Instr) (s t : State), i ≠ .escape → writesSp i = false → exec i s = .next t → t.sp = s.sp

/-- R30: memory is changed only by the instructions the table lists as writing it. -/
def Obligations.OnlyTheListedInstructionsWriteMemory : Prop :=
  ∀ (i : Instr) (s t : State), writesMemory i = false → exec i s = .next t → KeepsMemoryBut [] s t

/-- R59: an instruction that is not a taken jump, a call or a return continues at the address of its
opcode byte plus the length of its format without the prefix byte. -/
def Obligations.SequentialPcAdvance : Prop :=
  ∀ (i : Instr) (n : Nat) (s t : State), i.format.lengthAfterOpaddr = some n → transfersControl i s.f = false →
    exec i s = .next t →
    t.pc = s.opaddr i.isPrefixed + BitVec.ofNat 16 n ∧ (i.isPrefixed = true → t.pc = s.pc + 2)
end

