-- ==== Sys2Proof/Laws/State.lean ====
section
/-!
SUPPORT. One lemma per field per update of State, so that no proof unfolds a record update.
-/
namespace Sys2Proof.Machine.State

section
variable (s : State) (v : Byte) (x : Word) (a : Word) (f : Flags) (r : Gpr)

@[simp] theorem setPc_pc : (s.setPc x).pc = x := rfl
@[simp] theorem setPc_sp : (s.setPc x).sp = s.sp := rfl
@[simp] theorem setPc_f : (s.setPc x).f = s.f := rfl
@[simp] theorem setPc_mem : (s.setPc x).mem = s.mem := rfl
@[simp] theorem setPc_get8 (q : Reg8) : (s.setPc x).get8 q = s.get8 q := by cases q <;> rfl
@[simp] theorem setPc_reg : (s.setPc x).reg r = s.reg r := setPc_get8 s x r.sel
@[simp] theorem setPc_read : (s.setPc x).read a = s.read a := rfl

@[simp] theorem setSp_pc : (s.setSp x).pc = s.pc := rfl
@[simp] theorem setSp_sp : (s.setSp x).sp = x := rfl
@[simp] theorem setSp_f : (s.setSp x).f = s.f := rfl
@[simp] theorem setSp_mem : (s.setSp x).mem = s.mem := rfl
@[simp] theorem setSp_get8 (q : Reg8) : (s.setSp x).get8 q = s.get8 q := by cases q <;> rfl
@[simp] theorem setSp_reg : (s.setSp x).reg r = s.reg r := setSp_get8 s x r.sel
@[simp] theorem setSp_read : (s.setSp x).read a = s.read a := rfl

@[simp] theorem setFlags_pc : (s.setFlags f).pc = s.pc := rfl
@[simp] theorem setFlags_sp : (s.setFlags f).sp = s.sp := rfl
@[simp] theorem setFlags_f : (s.setFlags f).f = f := rfl
@[simp] theorem setFlags_mem : (s.setFlags f).mem = s.mem := rfl
@[simp] theorem setFlags_reg : (s.setFlags f).reg r = s.reg r := by cases r <;> rfl
@[simp] theorem setFlags_read : (s.setFlags f).read a = s.read a := rfl

@[simp] theorem write_pc : (s.write x v).pc = s.pc := rfl
@[simp] theorem write_sp : (s.write x v).sp = s.sp := rfl
@[simp] theorem write_f : (s.write x v).f = s.f := rfl
@[simp] theorem write_mem : (s.write x v).mem = Memory.store s.mem x.toNat v := rfl
@[simp] theorem write_get8 (q : Reg8) : (s.write x v).get8 q = s.get8 q := by cases q <;> rfl
@[simp] theorem write_reg : (s.write x v).reg r = s.reg r := write_get8 s v x r.sel

@[simp] theorem setReg_pc : (s.setReg r v).pc = s.pc := by cases r <;> rfl
@[simp] theorem setReg_sp : (s.setReg r v).sp = s.sp := by cases r <;> rfl
@[simp] theorem setReg_f : (s.setReg r v).f = s.f := by cases r <;> rfl
@[simp] theorem setReg_mem : (s.setReg r v).mem = s.mem := by cases r <;> rfl
@[simp] theorem setReg_read : (s.setReg r v).read a = s.read a := by cases r <;> rfl
@[simp] theorem setReg_reg_same : (s.setReg r v).reg r = v := by cases r <;> rfl
theorem setReg_reg_of_ne {q : Gpr} (h : q ≠ r) : (s.setReg r v).reg q = s.reg q := by
  cases r <;> cases q <;> first | rfl | exact absurd rfl h

@[simp] theorem set16_pairSp_pc (p : PairSp) : (s.set16 p.sel x).pc = s.pc := by cases p <;> rfl
@[simp] theorem set16_pairSp_f (p : PairSp) : (s.set16 p.sel x).f = s.f := by cases p <;> rfl
@[simp] theorem set16_pairSp_mem (p : PairSp) : (s.set16 p.sel x).mem = s.mem := by cases p <;> rfl
@[simp] theorem set16_pairAf_pc (p : PairAf) : (s.set16 p.sel x).pc = s.pc := by cases p <;> rfl
@[simp] theorem set16_pairAf_sp (p : PairAf) : (s.set16 p.sel x).sp = s.sp := by cases p <;> rfl
@[simp] theorem set16_pairAf_mem (p : PairAf) : (s.set16 p.sel x).mem = s.mem := by cases p <;> rfl
theorem set16_pairAf_f_of_ne {p : PairAf} (h : p ≠ .af) : (s.set16 p.sel x).f = s.f := by
  cases p <;> first | rfl | exact absurd rfl h
theorem set16_pairSp_sp_of_ne {p : PairSp} (h : p ≠ .sp) : (s.set16 p.sel x).sp = s.sp := by
  cases p <;> first | rfl | exact absurd rfl h
@[simp] theorem set16_hl_pc : (s.set16 .hl x).pc = s.pc := rfl
@[simp] theorem set16_hl_sp : (s.set16 .hl x).sp = s.sp := rfl
@[simp] theorem set16_hl_f : (s.set16 .hl x).f = s.f := rfl
@[simp] theorem set16_hl_mem : (s.set16 .hl x).mem = s.mem := rfl
@[simp] theorem set16_sp : s.set16 .sp x = s.setSp x := rfl

end

end Sys2Proof.Machine.State
end

