-- ==== Sys2Proof/Laws/Memory.lean ====
section
/-!
SUPPORT. What the memory operations do: a store is seen at its own address and nowhere else, and
every operation keeps the canonical form.
-/
namespace Sys2Proof.Machine

/-- Every address a canonical memory lists lies above a bound. -/
theorem Memory.cell_of_lt_all {m : Memory} {a : Nat} (h : ∀ x ∈ m, a < x.1) : Memory.cell m a = Config.resetCell := by
  induction m with
  | nil => rfl
  | cons x m ih =>
    have hx := h x (by simp)
    have hm : ∀ y ∈ m, a < y.1 := fun y hy => h y (by simp [hy])
    rw [Memory.cell, if_neg (by omega), ih hm]

theorem Memory.wf_cons {k : Nat} {w : Byte} {m : Memory} :
    Memory.wf ((k, w) :: m) = true ↔
      k < Config.memSize ∧ w ≠ Config.resetCell ∧ (∀ x ∈ m, k < x.1) ∧ Memory.wf m = true := by
  simp [Memory.wf, and_assoc]

theorem Memory.cell_entry_append_same (m : Memory) (a : Nat) (v : Byte) (h : ∀ x ∈ m, a < x.1) :
    Memory.cell (Memory.entry a v ++ m) a = v := by
  unfold Memory.entry
  split
  · next hv => rw [List.nil_append, cell_of_lt_all h, hv]
  · simp [Memory.cell]

theorem Memory.cell_entry_append_of_ne (m : Memory) {a b : Nat} (v : Byte) (h : b ≠ a) :
    Memory.cell (Memory.entry a v ++ m) b = Memory.cell m b := by
  unfold Memory.entry
  split
  · rfl
  · simp [Memory.cell, h.symm]

/-- A store is seen at its own address. -/
theorem Memory.cell_store_same {m : Memory} (h : Memory.wf m = true) (a : Nat) (v : Byte) :
    Memory.cell (Memory.store m a v) a = v := by
  induction m with
  | nil => simpa [Memory.store] using cell_entry_append_same [] a v (by simp)
  | cons x m ih =>
    obtain ⟨k, w⟩ := x
    obtain ⟨-, -, hk, hm⟩ := wf_cons.mp h
    rw [Memory.store]
    split
    · next hak =>
      refine cell_entry_append_same _ a v fun y hy => ?_
      rcases List.mem_cons.mp hy with rfl | hy
      · exact hak
      · exact lt_trans hak (hk y hy)
    · split
      · next hak => exact cell_entry_append_same _ a v (hak ▸ hk)
      · next hak => rw [Memory.cell, if_neg (Ne.symm hak), ih hm]

/-- A store is seen at no other address. -/
theorem Memory.cell_store_of_ne (m : Memory) {a b : Nat} (v : Byte) (h : b ≠ a) :
    Memory.cell (Memory.store m a v) b = Memory.cell m b := by
  induction m with
  | nil => simpa [Memory.store] using cell_entry_append_of_ne [] v h
  | cons x m ih =>
    obtain ⟨k, w⟩ := x
    rw [Memory.store]
    split
    · exact cell_entry_append_of_ne _ v h
    · split
      · next hak => rw [cell_entry_append_of_ne _ v h, Memory.cell, if_neg (by omega)]
      · simp only [Memory.cell, ih]

/-- Every address a store lists is one it was given or one that was listed. -/
theorem Memory.mem_store {m : Memory} {a : Nat} {v : Byte} {x : Host.Cell} (h : x ∈ Memory.store m a v) :
    x.1 = a ∨ x ∈ m := by
  have entry_mem : ∀ {y : Host.Cell}, y ∈ Memory.entry a v → y.1 = a := by
    intro y hy
    unfold Memory.entry at hy
    split at hy <;> simp_all
  induction m with
  | nil => exact .inl (entry_mem h)
  | cons y m ih =>
    obtain ⟨k, w⟩ := y
    rw [Memory.store] at h
    split at h
    · exact (List.mem_append.mp h).imp entry_mem id
    · split at h
      · exact (List.mem_append.mp h).imp entry_mem (List.mem_cons_of_mem _)
      · rcases List.mem_cons.mp h with rfl | h
        · exact .inr (by simp)
        · exact (ih h).imp id (List.mem_cons_of_mem _)

theorem Memory.wf_entry_append {m : Memory} {a : Nat} (v : Byte) (ha : a < Config.memSize) (hm : Memory.wf m = true)
    (h : ∀ x ∈ m, a < x.1) : Memory.wf (Memory.entry a v ++ m) = true := by
  unfold Memory.entry
  split
  · exact hm
  · next hv => exact wf_cons.mpr ⟨ha, hv, h, hm⟩

/-- A store keeps the canonical form. -/
theorem Memory.wf_store {m : Memory} (h : Memory.wf m = true) {a : Nat} (ha : a < Config.memSize) (v : Byte) :
    Memory.wf (Memory.store m a v) = true := by
  induction m with
  | nil => simpa [Memory.store] using wf_entry_append v ha (m := []) rfl (by simp)
  | cons x m ih =>
    obtain ⟨k, w⟩ := x
    have hkm := wf_cons.mp h
    obtain ⟨hks, hw, hk, hm⟩ := hkm
    rw [Memory.store]
    split
    · next hak =>
      refine wf_entry_append v ha h fun y hy => ?_
      rcases List.mem_cons.mp hy with rfl | hy
      · exact hak
      · exact lt_trans hak (hk y hy)
    · split
      · next hak => exact wf_entry_append v ha hm (hak ▸ hk)
      · next h₁ h₂ =>
        refine wf_cons.mpr ⟨hks, hw, fun y hy => ?_, ih hm⟩
        rcases mem_store hy with hy | hy
        · omega
        · exact hk y hy

/-- A bulk store within the memory keeps the canonical form. -/
theorem Memory.wf_storeAll {m : Memory} (h : Memory.wf m = true) (a : Nat) (vs : List Byte)
    (ha : a + vs.length ≤ Config.memSize) : Memory.wf (Memory.storeAll m a vs) = true := by
  induction vs generalizing m a with
  | nil => exact h
  | cons v vs ih =>
    rw [List.length_cons] at ha
    exact ih (wf_store h (by omega) v) (a + 1) (by omega)

theorem word_lt_memSize (a : Word) : a.toNat < Config.memSize := a.isLt

namespace State

/-- A byte written is read back. -/
theorem read_write_same {s : State} (h : Memory.wf s.mem = true) (a : Word) (v : Byte) : (s.write a v).read a = v :=
  Memory.cell_store_same h a.toNat v

/-- A write changes no other byte. -/
theorem read_write_of_ne (s : State) {a b : Word} (v : Byte) (h : b ≠ a) : (s.write a v).read b = s.read b :=
  Memory.cell_store_of_ne s.mem v fun e => h (BitVec.eq_of_toNat_eq e)

/-- A write keeps the canonical form. -/
theorem wf_write {s : State} (h : Memory.wf s.mem = true) (a : Word) (v : Byte) :
    Memory.wf (s.write a v).mem = true := Memory.wf_store h (word_lt_memSize a) v

/-- Placing bytes keeps the canonical form. -/
theorem wf_writeBytes {s : State} (h : Memory.wf s.mem = true) (a : Word) (vs : List Byte) :
    Memory.wf (s.writeBytes a vs).mem = true := by
  induction vs generalizing s a with
  | nil => exact h
  | cons v vs ih => exact ih (wf_write h a v) (a + 1)

end State

/-- Reset memory is in canonical form. -/
theorem reset_wf : Memory.wf State.reset.mem = true := rfl

/-- A boot image that is loaded keeps the canonical form. -/
theorem wf_loadBootImage {image : List Byte} {s t : State} (h : Memory.wf s.mem = true)
    (ht : loadBootImage image s = .next t) : Memory.wf t.mem = true := by
  unfold loadBootImage at ht
  split at ht
  · cases ht
  · cases ht
    exact Memory.wf_storeAll h 0 image (by omega)

end Sys2Proof.Machine
end

