-- ==== Sys2Proof/Laws/Ops.lean ====
section
/-!
SUPPORT. What each shared operation can do: the memory it leaves, and the registers and flags of the
stack primitives. Proofs cite these and do not unfold the operations.
-/
namespace Sys2Proof.Machine

/-! The bit fields. -/

@[simp] theorem hiByte_joinBytes (hi lo : Byte) : hiByte (joinBytes hi lo) = hi := by
  apply BitVec.eq_of_getLsbD_eq
  intro i h
  simp only [joinBytes, hiByte, BitVec.getLsbD_extractLsb', BitVec.getLsbD_append]
  simp [h]

@[simp] theorem loByte_joinBytes (hi lo : Byte) : loByte (joinBytes hi lo) = lo := by
  apply BitVec.eq_of_getLsbD_eq
  intro i h
  simp only [joinBytes, loByte, BitVec.getLsbD_extractLsb', BitVec.getLsbD_append]
  simp [h]

@[simp] theorem joinBytes_hiByte_loByte (v : Word) : joinBytes (hiByte v) (loByte v) = v := by
  apply BitVec.eq_of_getLsbD_eq
  intro i hi
  simp only [joinBytes, hiByte, loByte, BitVec.getLsbD_append, BitVec.getLsbD_extractLsb']
  by_cases h : i < 8
  · simp [h]
  · have h8 : i - 8 < 8 := by omega
    simp [h, h8, Nat.add_sub_cancel' (Nat.le_of_not_lt h)]

theorem joinBytes_toNat (hi lo : Byte) : (joinBytes hi lo).toNat = 256 * hi.toNat + lo.toNat := by
  have h : (joinBytes hi lo).toNat = hi.toNat <<< 8 ||| lo.toNat := BitVec.toNat_append hi lo
  rw [h, ← Nat.shiftLeft_add_eq_or_of_lt lo.isLt, Nat.shiftLeft_eq, Nat.mul_comm]

theorem hiByte_toNat (v : Word) : (hiByte v).toNat = v.toNat / 256 := by
  have h := v.isLt
  simp [hiByte, BitVec.extractLsb'_toNat, Nat.shiftRight_eq_div_pow]
  omega

theorem loByte_toNat (v : Word) : (loByte v).toNat = v.toNat % 256 := by
  simp [loByte, BitVec.extractLsb'_toNat]

theorem loByte_getLsbD (v : Word) {i : Nat} (h : i < 8) : (loByte v).getLsbD i = v.getLsbD i := by
  simp only [loByte, BitVec.getLsbD_extractLsb']
  simp [h]

/-- Sign extension is the two's-complement value. -/
theorem sext16_eq_ofInt : ∀ v : Byte, sext16 v = BitVec.ofInt 16 v.toInt := by decide +kernel

theorem highAddr_eq (b : Byte) : highAddr b = BitVec.ofNat 16 (0xFF00 + b.toNat) := by
  apply BitVec.eq_of_toNat_eq
  have h := b.isLt
  simp [highAddr, Config.highPage, zext16, BitVec.toNat_add]

theorem sub_one_sub_one (a : Word) : a - 1 - 1 = a - 2 := by bv_omega

theorem add_one_add_one (a : Word) : a + 1 + 1 = a + 2 := by bv_omega

@[simp] theorem Flags.ofByte_toByte (f : Flags) : Flags.ofByte f.toByte = f := by
  rcases f with ⟨_ | _, _ | _, _ | _, _ | _⟩ <;> rfl

/-! The pair views. -/

namespace State

theorem get16_set16_pairSp (s : State) (p : PairSp) (v : Word) : (s.set16 p.sel v).get16 p.sel = v := by
  cases p with
  | sp => rfl
  | _ => exact joinBytes_hiByte_loByte v

theorem get16_set16_pairAf (s : State) {p : PairAf} (h : p ≠ .af) (v : Word) : (s.set16 p.sel v).get16 p.sel = v := by
  cases p with
  | af => exact absurd rfl h
  | _ => exact joinBytes_hiByte_loByte v

@[simp] theorem setPc_get16_pairSp (s : State) (p : PairSp) (x : Word) : (s.setPc x).get16 p.sel = s.get16 p.sel := by
  cases p <;> rfl

@[simp] theorem setPc_get16_pairAf (s : State) (p : PairAf) (x : Word) : (s.setPc x).get16 p.sel = s.get16 p.sel := by
  cases p <;> rfl

end State

/-! The stack primitives. -/

namespace State

variable (s : State) (v : Word) (r : Gpr)

@[simp] theorem push16_pc : (s.push16 v).pc = s.pc := by simp [push16, pushByte]
@[simp] theorem push16_sp : (s.push16 v).sp = s.sp - 2 := sub_one_sub_one _
@[simp] theorem push16_f : (s.push16 v).f = s.f := by simp [push16, pushByte]
@[simp] theorem push16_reg : (s.push16 v).reg r = s.reg r := by simp [push16, pushByte]
@[simp] theorem pop16_fst : s.pop16.1 = joinBytes (s.read (s.sp + 1)) (s.read s.sp) := rfl
@[simp] theorem pop16_pc : s.pop16.2.pc = s.pc := rfl
@[simp] theorem pop16_sp : s.pop16.2.sp = s.sp + 2 := add_one_add_one _
@[simp] theorem pop16_f : s.pop16.2.f = s.f := rfl
@[simp] theorem pop16_mem : s.pop16.2.mem = s.mem := rfl
@[simp] theorem pop16_reg : s.pop16.2.reg r = s.reg r := by simp [pop16, popByte]

/-- A push writes the two cells below SP and no other. -/
theorem read_push16_of_ne {a : Word} (h₁ : a ≠ s.sp - 1) (h₂ : a ≠ s.sp - 2) : (s.push16 v).read a = s.read a := by
  rw [← sub_one_sub_one] at h₂
  rw [push16, pushByte, read_write_of_ne _ _ (by simpa [pushByte] using h₂), setSp_read, pushByte,
    read_write_of_ne _ _ h₁, setSp_read]

/-- The high byte pushed lies just below the old SP. -/
theorem read_push16_hi {s : State} (h : Memory.wf s.mem = true) (v : Word) :
    (s.push16 v).read (s.sp - 1) = hiByte v := by
  have hne : s.sp - 1 ≠ s.sp - 1 - 1 := by bv_omega
  rw [push16, pushByte, read_write_of_ne _ _ (by simpa [pushByte] using hne)]
  exact read_write_same (s := s.setSp (s.sp - 1)) h _ _

/-- The low byte pushed lies at the new SP. -/
theorem read_push16_lo {s : State} (h : Memory.wf s.mem = true) (v : Word) :
    (s.push16 v).read (s.sp - 2) = loByte v := by
  have h₁ : Memory.wf (s.pushByte (hiByte v)).mem = true := wf_write (s := s.setSp (s.sp - 1)) h _ _
  rw [← sub_one_sub_one]
  exact read_write_same (s := (s.pushByte (hiByte v)).setSp _) h₁ _ _

/-- A push keeps the canonical form. -/
theorem wf_push16 {s : State} (h : Memory.wf s.mem = true) (v : Word) : Memory.wf (s.push16 v).mem = true := by
  have h₁ : Memory.wf (s.pushByte (hiByte v)).mem = true := wf_write (s := s.setSp (s.sp - 1)) h _ _
  exact wf_write (s := (s.pushByte (hiByte v)).setSp _) h₁ _ _

end State

/-! The memory each operation leaves. An operation either leaves it as it was or stores by `write` or
`push16`; the lemmas name which. -/

section
variable (o : Word) (s : State)

@[simp] theorem noOperation_mem : (noOperation o s).mem = s.mem := rfl
@[simp] theorem loadPairImm_mem (rr : PairSp) : (loadPairImm rr o s).mem = s.mem := by simp [loadPairImm]
@[simp] theorem loadSpFromHl_mem : (loadSpFromHl o s).mem = s.mem := rfl
@[simp] theorem loadRegReg_mem (r r' : Gpr) : (loadRegReg r r' o s).mem = s.mem := by simp [loadRegReg]
@[simp] theorem loadRegImm_mem (r : Gpr) : (loadRegImm r o s).mem = s.mem := by simp [loadRegImm]
@[simp] theorem loadRegMem_mem (r : Gpr) (p : Reg16) : (loadRegMem r p o s).mem = s.mem := by simp [loadRegMem]
@[simp] theorem storeRegMem_mem (p : Reg16) (r : Gpr) :
    (storeRegMem p r o s).mem = (s.write (s.get16 p) (s.reg r)).mem := rfl
@[simp] theorem storeImmHl_mem : (storeImmHl o s).mem = (s.write (s.get16 .hl) (s.imm8 o)).mem := rfl
@[simp] theorem storeAHlStep_mem (delta : Word) :
    (storeAHlStep delta o s).mem = (s.write (s.get16 .hl) (s.reg .a)).mem := rfl
@[simp] theorem storeAHighC_mem : (storeAHighC o s).mem = (s.write (highAddr (s.reg .c)) (s.reg .a)).mem := rfl
@[simp] theorem storeAHighImm_mem : (storeAHighImm o s).mem = (s.write (highAddr (s.imm8 o)) (s.reg .a)).mem := rfl
@[simp] theorem storeAAbs_mem : (storeAAbs o s).mem = (s.write (s.imm16 o) (s.reg .a)).mem := rfl
@[simp] theorem xorA_mem (r : Gpr) : (xorA r o s).mem = s.mem := by simp [xorA]
@[simp] theorem bitTest_mem (n : Fin 8) (r : Gpr) : (bitTest n r o s).mem = s.mem := rfl
@[simp] theorem jumpRelative_mem (cc : Cond) : (jumpRelative cc o s).mem = s.mem := rfl
@[simp] theorem incReg8_mem (r : Gpr) : (incReg8 r o s).mem = s.mem := by simp [incReg8]
@[simp] theorem decReg8_mem (r : Gpr) : (decReg8 r o s).mem = s.mem := by simp [decReg8]
@[simp] theorem incReg16_mem (rr : PairSp) : (incReg16 rr o s).mem = s.mem := by simp [incReg16]
@[simp] theorem decReg16_mem (rr : PairSp) : (decReg16 rr o s).mem = s.mem := by simp [decReg16]
@[simp] theorem callAbs_mem : (callAbs o s).mem = (s.push16 (o + 3)).mem := rfl
@[simp] theorem returnFromCall_mem : (returnFromCall o s).mem = s.mem := by simp [returnFromCall]
@[simp] theorem pushReg16_mem (rr : PairAf) : (pushReg16 rr o s).mem = (s.push16 (s.get16 rr.sel)).mem := rfl
@[simp] theorem popReg16_mem (rr : PairAf) : (popReg16 rr o s).mem = s.mem := by simp [popReg16]
@[simp] theorem rotateLeft_mem (r : Gpr) : (rotateLeft r o s).mem = s.mem := by simp [rotateLeft]
@[simp] theorem compareImm_mem : (compareImm o s).mem = s.mem := rfl
@[simp] theorem addA_mem (r : Gpr) : (addA r o s).mem = s.mem := by simp [addA]

end

/-! The PC each operation leaves. -/

section
variable (o : Word) (s : State)

@[simp] theorem noOperation_pc : (noOperation o s).pc = o + 1 := rfl
@[simp] theorem loadPairImm_pc (rr : PairSp) : (loadPairImm rr o s).pc = o + 3 := rfl
@[simp] theorem loadSpFromHl_pc : (loadSpFromHl o s).pc = o + 1 := rfl
@[simp] theorem loadRegReg_pc (r r' : Gpr) : (loadRegReg r r' o s).pc = o + 1 := rfl
@[simp] theorem loadRegImm_pc (r : Gpr) : (loadRegImm r o s).pc = o + 2 := rfl
@[simp] theorem loadRegMem_pc (r : Gpr) (p : Reg16) : (loadRegMem r p o s).pc = o + 1 := rfl
@[simp] theorem storeRegMem_pc (p : Reg16) (r : Gpr) : (storeRegMem p r o s).pc = o + 1 := rfl
@[simp] theorem storeImmHl_pc : (storeImmHl o s).pc = o + 2 := rfl
@[simp] theorem storeAHlStep_pc (delta : Word) : (storeAHlStep delta o s).pc = o + 1 := rfl
@[simp] theorem storeAHighC_pc : (storeAHighC o s).pc = o + 1 := rfl
@[simp] theorem storeAHighImm_pc : (storeAHighImm o s).pc = o + 2 := rfl
@[simp] theorem storeAAbs_pc : (storeAAbs o s).pc = o + 3 := rfl
@[simp] theorem xorA_pc (r : Gpr) : (xorA r o s).pc = o + 1 := rfl
@[simp] theorem bitTest_pc (n : Fin 8) (r : Gpr) : (bitTest n r o s).pc = o + 1 := rfl
@[simp] theorem incReg8_pc (r : Gpr) : (incReg8 r o s).pc = o + 1 := rfl
@[simp] theorem decReg8_pc (r : Gpr) : (decReg8 r o s).pc = o + 1 := rfl
@[simp] theorem incReg16_pc (rr : PairSp) : (incReg16 rr o s).pc = o + 1 := rfl
@[simp] theorem decReg16_pc (rr : PairSp) : (decReg16 rr o s).pc = o + 1 := rfl
@[simp] theorem pushReg16_pc (rr : PairAf) : (pushReg16 rr o s).pc = o + 1 := rfl
@[simp] theorem popReg16_pc (rr : PairAf) : (popReg16 rr o s).pc = o + 1 := rfl
@[simp] theorem rotateLeft_pc (r : Gpr) : (rotateLeft r o s).pc = o + 1 := rfl
@[simp] theorem compareImm_pc : (compareImm o s).pc = o + 2 := rfl
@[simp] theorem addA_pc (r : Gpr) : (addA r o s).pc = o + 1 := rfl

end

/-! The SP of each operation that does not write it. -/

section
variable (o : Word) (s : State)

@[simp] theorem noOperation_sp : (noOperation o s).sp = s.sp := rfl
@[simp] theorem loadRegReg_sp (r r' : Gpr) : (loadRegReg r r' o s).sp = s.sp := by simp [loadRegReg]
@[simp] theorem loadRegImm_sp (r : Gpr) : (loadRegImm r o s).sp = s.sp := by simp [loadRegImm]
@[simp] theorem loadRegMem_sp (r : Gpr) (p : Reg16) : (loadRegMem r p o s).sp = s.sp := by simp [loadRegMem]
@[simp] theorem storeRegMem_sp (p : Reg16) (r : Gpr) : (storeRegMem p r o s).sp = s.sp := rfl
@[simp] theorem storeImmHl_sp : (storeImmHl o s).sp = s.sp := rfl
@[simp] theorem storeAHlStep_sp (delta : Word) : (storeAHlStep delta o s).sp = s.sp := rfl
@[simp] theorem storeAHighC_sp : (storeAHighC o s).sp = s.sp := rfl
@[simp] theorem storeAHighImm_sp : (storeAHighImm o s).sp = s.sp := rfl
@[simp] theorem storeAAbs_sp : (storeAAbs o s).sp = s.sp := rfl
@[simp] theorem xorA_sp (r : Gpr) : (xorA r o s).sp = s.sp := by simp [xorA]
@[simp] theorem bitTest_sp (n : Fin 8) (r : Gpr) : (bitTest n r o s).sp = s.sp := rfl
@[simp] theorem incReg8_sp (r : Gpr) : (incReg8 r o s).sp = s.sp := by simp [incReg8]
@[simp] theorem decReg8_sp (r : Gpr) : (decReg8 r o s).sp = s.sp := by simp [decReg8]
@[simp] theorem rotateLeft_sp (r : Gpr) : (rotateLeft r o s).sp = s.sp := by simp [rotateLeft]
@[simp] theorem compareImm_sp : (compareImm o s).sp = s.sp := rfl
@[simp] theorem addA_sp (r : Gpr) : (addA r o s).sp = s.sp := by simp [addA]
@[simp] theorem jumpRelative_sp (cc : Cond) : (jumpRelative cc o s).sp = s.sp := rfl
@[simp] theorem callAbs_sp : (callAbs o s).sp = s.sp - 2 := by simp [callAbs]
@[simp] theorem returnFromCall_sp : (returnFromCall o s).sp = s.sp + 2 := by simp [returnFromCall]
@[simp] theorem pushReg16_sp (rr : PairAf) : (pushReg16 rr o s).sp = s.sp - 2 := by simp [pushReg16]
@[simp] theorem popReg16_sp (rr : PairAf) : (popReg16 rr o s).sp = s.sp + 2 := by simp [popReg16]

end

/-! The flags of each operation. -/

section
variable (o : Word) (s : State)

@[simp] theorem noOperation_f : (noOperation o s).f = s.f := rfl
@[simp] theorem loadPairImm_f (rr : PairSp) : (loadPairImm rr o s).f = s.f := by simp [loadPairImm]
@[simp] theorem loadSpFromHl_f : (loadSpFromHl o s).f = s.f := rfl
@[simp] theorem loadRegReg_f (r r' : Gpr) : (loadRegReg r r' o s).f = s.f := by simp [loadRegReg]
@[simp] theorem loadRegImm_f (r : Gpr) : (loadRegImm r o s).f = s.f := by simp [loadRegImm]
@[simp] theorem loadRegMem_f (r : Gpr) (p : Reg16) : (loadRegMem r p o s).f = s.f := by simp [loadRegMem]
@[simp] theorem storeRegMem_f (p : Reg16) (r : Gpr) : (storeRegMem p r o s).f = s.f := rfl
@[simp] theorem storeImmHl_f : (storeImmHl o s).f = s.f := rfl
@[simp] theorem storeAHlStep_f (delta : Word) : (storeAHlStep delta o s).f = s.f := rfl
@[simp] theorem storeAHighC_f : (storeAHighC o s).f = s.f := rfl
@[simp] theorem storeAHighImm_f : (storeAHighImm o s).f = s.f := rfl
@[simp] theorem storeAAbs_f : (storeAAbs o s).f = s.f := rfl
@[simp] theorem incReg8_f (r : Gpr) : (incReg8 r o s).f = s.f := by simp [incReg8]
@[simp] theorem decReg8_f (r : Gpr) : (decReg8 r o s).f = s.f := by simp [decReg8]
@[simp] theorem incReg16_f (rr : PairSp) : (incReg16 rr o s).f = s.f := by simp [incReg16]
@[simp] theorem decReg16_f (rr : PairSp) : (decReg16 rr o s).f = s.f := by simp [decReg16]
@[simp] theorem pushReg16_f (rr : PairAf) : (pushReg16 rr o s).f = s.f := by simp [pushReg16]
@[simp] theorem jumpRelative_f (cc : Cond) : (jumpRelative cc o s).f = s.f := rfl
@[simp] theorem callAbs_f : (callAbs o s).f = s.f := by simp [callAbs]
@[simp] theorem returnFromCall_f : (returnFromCall o s).f = s.f := by simp [returnFromCall]
@[simp] theorem xorA_f (r : Gpr) : (xorA r o s).f = xorFlags (s.reg .a ^^^ s.reg r) := rfl
@[simp] theorem addA_f (r : Gpr) : (addA r o s).f = addFlags (s.reg .a) (s.reg r) := rfl
@[simp] theorem bitTest_f (n : Fin 8) (r : Gpr) : (bitTest n r o s).f = s.f.withZ (!(s.reg r).getLsbD n) := rfl
@[simp] theorem compareImm_f : (compareImm o s).f = s.f.withZ (s.imm8 o == s.reg .a) := rfl
@[simp] theorem rotateLeft_f (r : Gpr) :
    (rotateLeft r o s).f = s.f.withZC ((rotateLeft r o s).reg r == 0) ((s.reg r).getLsbD 7) := by simp [rotateLeft]
@[simp] theorem popReg16_af_f : (popReg16 .af o s).f = Flags.ofByte (s.read s.sp) := by
  show Flags.ofByte (loByte (joinBytes _ _)) = _
  rw [loByte_joinBytes]
theorem popReg16_f_of_ne {rr : PairAf} (h : rr ≠ .af) : (popReg16 rr o s).f = s.f := by
  simp [popReg16, State.set16_pairAf_f_of_ne _ _ h]

end

/-! The outcomes. -/

/-- The escape byte completes exactly where its following byte is a mapped prefixed opcode. -/
theorem execEscape_cases (s : State) :
    (∃ operation, prefixedOperation (s.read (s.opaddr true)) = some operation ∧
        execEscape s = .next (operation (s.opaddr true) s)) ∨
      (prefixedOperation (s.read (s.opaddr true)) = none ∧
        execEscape s = .fault (.unimplementedOpcode s.pc (s.read (s.opaddr true)) true)) := by
  unfold execEscape
  split
  · next operation h => exact .inl ⟨operation, h, rfl⟩
  · next h => exact .inr ⟨h, rfl⟩

/-- An operation of the prefixed table is a rotation or a bit test. -/
theorem prefixedOperation_cases {op : Byte} {operation : Word → State → State}
    (h : prefixedOperation op = some operation) :
    (∃ r, operation = rotateLeft r) ∨ ∃ n r, operation = bitTest n r := by
  unfold prefixedOperation at h
  split at h
  · cases h
  · split at h
    · cases h
      exact .inl ⟨_, rfl⟩
    · split at h
      · cases h
        exact .inr ⟨_, _, rfl⟩
      · cases h

end Sys2Proof.Machine
end

