-- ==== Sys2Proof/Laws/Exec.lean ====
section
/-!
SUPPORT. Every instruction is one of 33 families, and what `exec` answers for each family: the one
place where proofs about instructions split on the constructors.
-/
namespace Sys2Proof.Laws

/-- The families of the instruction set, one case for each rule of spec/40 to spec/49, the escape byte and
the unmapped encodings. -/
inductive Family : Instr → Prop where
  | nop : Family .nop
  | ldPairImm (rr : PairSp) : Family (ldPairImm rr)
  | ld_SP_HL : Family .ld_SP_HL
  | ldRegReg (r : Gpr) (r' : Gpr) : Family (ldRegReg r r')
  | ldRegImm (r : Gpr) : Family (ldRegImm r)
  | ldRegAtHl (r : Gpr) : Family (ldRegAtHl r)
  | ldAtHlReg (r : Gpr) : Family (ldAtHlReg r)
  | ld_atHL_d8 : Family .ld_atHL_d8
  | ld_A_atBC : Family .ld_A_atBC
  | ld_A_atDE : Family .ld_A_atDE
  | ld_atBC_A : Family .ld_atBC_A
  | ld_atDE_A : Family .ld_atDE_A
  | ld_atHLinc_A : Family .ld_atHLinc_A
  | ld_atHLdec_A : Family .ld_atHLdec_A
  | ld_atC_A : Family .ld_atC_A
  | ldh_a8_A : Family .ldh_a8_A
  | ld_a16_A : Family .ld_a16_A
  | xorReg (r : Gpr) : Family (xorReg r)
  | bitReg (n : Fin 8) (r : Gpr) : Family (bitReg n r)
  | jrCond (cc : Cond) : Family (jrCond cc)
  | incReg (r : Gpr) : Family (incReg r)
  | decReg (r : Gpr) : Family (decReg r)
  | incPair (rr : PairSp) : Family (incPair rr)
  | decPair (rr : PairSp) : Family (decPair rr)
  | call_a16 : Family .call_a16
  | ret : Family .ret
  | pushPair (rr : PairAf) : Family (pushPair rr)
  | popPair (rr : PairAf) : Family (popPair rr)
  | rlReg (r : Gpr) : Family (rlReg r)
  | cp_d8 : Family .cp_d8
  | addReg (r : Gpr) : Family (addReg r)
  | escape : Family .escape
  | unmapped (op : Byte) (prefixed : Bool) : Family (.unmapped op prefixed)

/-- Every instruction belongs to a family. -/
theorem family : ∀ i : Instr, Family i
  | .nop => .nop
  | .ld_BC_d16 => .ldPairImm .bc
  | .ld_DE_d16 => .ldPairImm .de
  | .ld_HL_d16 => .ldPairImm .hl
  | .ld_SP_d16 => .ldPairImm .sp
  | .ld_SP_HL => .ld_SP_HL
  | .ld_B_B => .ldRegReg .b .b
  | .ld_B_C => .ldRegReg .b .c
  | .ld_B_D => .ldRegReg .b .d
  | .ld_B_E => .ldRegReg .b .e
  | .ld_B_H => .ldRegReg .b .h
  | .ld_B_L => .ldRegReg .b .l
  | .ld_B_A => .ldRegReg .b .a
  | .ld_C_B => .ldRegReg .c .b
  | .ld_C_C => .ldRegReg .c .c
  | .ld_C_D => .ldRegReg .c .d
  | .ld_C_E => .ldRegReg .c .e
  | .ld_C_H => .ldRegReg .c .h
  | .ld_C_L => .ldRegReg .c .l
  | .ld_C_A => .ldRegReg .c .a
  | .ld_D_B => .ldRegReg .d .b
  | .ld_D_C => .ldRegReg .d .c
  | .ld_D_D => .ldRegReg .d .d
  | .ld_D_E => .ldRegReg .d .e
  | .ld_D_H => .ldRegReg .d .h
  | .ld_D_L => .ldRegReg .d .l
  | .ld_D_A => .ldRegReg .d .a
  | .ld_E_B => .ldRegReg .e .b
  | .ld_E_C => .ldRegReg .e .c
  | .ld_E_D => .ldRegReg .e .d
  | .ld_E_E => .ldRegReg .e .e
  | .ld_E_H => .ldRegReg .e .h
  | .ld_E_L => .ldRegReg .e .l
  | .ld_E_A => .ldRegReg .e .a
  | .ld_H_B => .ldRegReg .h .b
  | .ld_H_C => .ldRegReg .h .c
  | .ld_H_D => .ldRegReg .h .d
  | .ld_H_E => .ldRegReg .h .e
  | .ld_H_H => .ldRegReg .h .h
  | .ld_H_L => .ldRegReg .h .l
  | .ld_H_A => .ldRegReg .h .a
  | .ld_L_B => .ldRegReg .l .b
  | .ld_L_C => .ldRegReg .l .c
  | .ld_L_D => .ldRegReg .l .d
  | .ld_L_E => .ldRegReg .l .e
  | .ld_L_H => .ldRegReg .l .h
  | .ld_L_L => .ldRegReg .l .l
  | .ld_L_A => .ldRegReg .l .a
  | .ld_A_B => .ldRegReg .a .b
  | .ld_A_C => .ldRegReg .a .c
  | .ld_A_D => .ldRegReg .a .d
  | .ld_A_E => .ldRegReg .a .e
  | .ld_A_H => .ldRegReg .a .h
  | .ld_A_L => .ldRegReg .a .l
  | .ld_A_A => .ldRegReg .a .a
  | .ld_B_d8 => .ldRegImm .b
  | .ld_C_d8 => .ldRegImm .c
  | .ld_D_d8 => .ldRegImm .d
  | .ld_E_d8 => .ldRegImm .e
  | .ld_H_d8 => .ldRegImm .h
  | .ld_L_d8 => .ldRegImm .l
  | .ld_A_d8 => .ldRegImm .a
  | .ld_B_atHL => .ldRegAtHl .b
  | .ld_C_atHL => .ldRegAtHl .c
  | .ld_D_atHL => .ldRegAtHl .d
  | .ld_E_atHL => .ldRegAtHl .e
  | .ld_H_atHL => .ldRegAtHl .h
  | .ld_L_atHL => .ldRegAtHl .l
  | .ld_A_atHL => .ldRegAtHl .a
  | .ld_atHL_B => .ldAtHlReg .b
  | .ld_atHL_C => .ldAtHlReg .c
  | .ld_atHL_D => .ldAtHlReg .d
  | .ld_atHL_E => .ldAtHlReg .e
  | .ld_atHL_H => .ldAtHlReg .h
  | .ld_atHL_L => .ldAtHlReg .l
  | .ld_atHL_A => .ldAtHlReg .a
  | .ld_atHL_d8 => .ld_atHL_d8
  | .ld_A_atBC => .ld_A_atBC
  | .ld_A_atDE => .ld_A_atDE
  | .ld_atBC_A => .ld_atBC_A
  | .ld_atDE_A => .ld_atDE_A
  | .ld_atHLinc_A => .ld_atHLinc_A
  | .ld_atHLdec_A => .ld_atHLdec_A
  | .ld_atC_A => .ld_atC_A
  | .ldh_a8_A => .ldh_a8_A
  | .ld_a16_A => .ld_a16_A
  | .xor_B => .xorReg .b
  | .xor_C => .xorReg .c
  | .xor_D => .xorReg .d
  | .xor_E => .xorReg .e
  | .xor_H => .xorReg .h
  | .xor_L => .xorReg .l
  | .xor_A => .xorReg .a
  | .bit_0_B => .bitReg 0 .b
  | .bit_0_C => .bitReg 0 .c
  | .bit_0_D => .bitReg 0 .d
  | .bit_0_E => .bitReg 0 .e
  | .bit_0_H => .bitReg 0 .h
  | .bit_0_L => .bitReg 0 .l
  | .bit_0_A => .bitReg 0 .a
  | .bit_1_B => .bitReg 1 .b
  | .bit_1_C => .bitReg 1 .c
  | .bit_1_D => .bitReg 1 .d
  | .bit_1_E => .bitReg 1 .e
  | .bit_1_H => .bitReg 1 .h
  | .bit_1_L => .bitReg 1 .l
  | .bit_1_A => .bitReg 1 .a
  | .bit_2_B => .bitReg 2 .b
  | .bit_2_C => .bitReg 2 .c
  | .bit_2_D => .bitReg 2 .d
  | .bit_2_E => .bitReg 2 .e
  | .bit_2_H => .bitReg 2 .h
  | .bit_2_L => .bitReg 2 .l
  | .bit_2_A => .bitReg 2 .a
  | .bit_3_B => .bitReg 3 .b
  | .bit_3_C => .bitReg 3 .c
  | .bit_3_D => .bitReg 3 .d
  | .bit_3_E => .bitReg 3 .e
  | .bit_3_H => .bitReg 3 .h
  | .bit_3_L => .bitReg 3 .l
  | .bit_3_A => .bitReg 3 .a
  | .bit_4_B => .bitReg 4 .b
  | .bit_4_C => .bitReg 4 .c
  | .bit_4_D => .bitReg 4 .d
  | .bit_4_E => .bitReg 4 .e
  | .bit_4_H => .bitReg 4 .h
  | .bit_4_L => .bitReg 4 .l
  | .bit_4_A => .bitReg 4 .a
  | .bit_5_B => .bitReg 5 .b
  | .bit_5_C => .bitReg 5 .c
  | .bit_5_D => .bitReg 5 .d
  | .bit_5_E => .bitReg 5 .e
  | .bit_5_H => .bitReg 5 .h
  | .bit_5_L => .bitReg 5 .l
  | .bit_5_A => .bitReg 5 .a
  | .bit_6_B => .bitReg 6 .b
  | .bit_6_C => .bitReg 6 .c
  | .bit_6_D => .bitReg 6 .d
  | .bit_6_E => .bitReg 6 .e
  | .bit_6_H => .bitReg 6 .h
  | .bit_6_L => .bitReg 6 .l
  | .bit_6_A => .bitReg 6 .a
  | .bit_7_B => .bitReg 7 .b
  | .bit_7_C => .bitReg 7 .c
  | .bit_7_D => .bitReg 7 .d
  | .bit_7_E => .bitReg 7 .e
  | .bit_7_H => .bitReg 7 .h
  | .bit_7_L => .bitReg 7 .l
  | .bit_7_A => .bitReg 7 .a
  | .jr_NZ => .jrCond .nz
  | .jr_Z => .jrCond .z
  | .inc_B => .incReg .b
  | .inc_C => .incReg .c
  | .inc_D => .incReg .d
  | .inc_E => .incReg .e
  | .inc_H => .incReg .h
  | .inc_L => .incReg .l
  | .inc_A => .incReg .a
  | .dec_B => .decReg .b
  | .dec_C => .decReg .c
  | .dec_D => .decReg .d
  | .dec_E => .decReg .e
  | .dec_H => .decReg .h
  | .dec_L => .decReg .l
  | .dec_A => .decReg .a
  | .inc_BC => .incPair .bc
  | .inc_DE => .incPair .de
  | .inc_HL => .incPair .hl
  | .inc_SP => .incPair .sp
  | .dec_BC => .decPair .bc
  | .dec_DE => .decPair .de
  | .dec_HL => .decPair .hl
  | .dec_SP => .decPair .sp
  | .call_a16 => .call_a16
  | .ret => .ret
  | .push_BC => .pushPair .bc
  | .push_DE => .pushPair .de
  | .push_HL => .pushPair .hl
  | .push_AF => .pushPair .af
  | .pop_BC => .popPair .bc
  | .pop_DE => .popPair .de
  | .pop_HL => .popPair .hl
  | .pop_AF => .popPair .af
  | .rl_B => .rlReg .b
  | .rl_C => .rlReg .c
  | .rl_D => .rlReg .d
  | .rl_E => .rlReg .e
  | .rl_H => .rlReg .h
  | .rl_L => .rlReg .l
  | .rl_A => .rlReg .a
  | .cp_d8 => .cp_d8
  | .add_A_B => .addReg .b
  | .add_A_C => .addReg .c
  | .add_A_D => .addReg .d
  | .add_A_E => .addReg .e
  | .add_A_H => .addReg .h
  | .add_A_L => .addReg .l
  | .add_A_A => .addReg .a
  | .escape => .escape
  | .unmapped op prefixed => .unmapped op prefixed

section
open Sys2Proof.Machine
variable (s : State)

theorem exec_nop : exec .nop s = .next (noOperation (s.opaddr false) s) := rfl

theorem exec_ldPairImm (rr : PairSp) :
    exec (ldPairImm rr) s = .next (loadPairImm rr (s.opaddr false) s) := by
  cases rr <;> rfl

theorem exec_ld_SP_HL : exec .ld_SP_HL s = .next (loadSpFromHl (s.opaddr false) s) := rfl

theorem exec_ldRegReg (r : Gpr) (r' : Gpr) :
    exec (ldRegReg r r') s = .next (loadRegReg r r' (s.opaddr false) s) := by
  cases r <;> cases r' <;> rfl

theorem exec_ldRegImm (r : Gpr) :
    exec (ldRegImm r) s = .next (loadRegImm r (s.opaddr false) s) := by
  cases r <;> rfl

theorem exec_ldRegAtHl (r : Gpr) :
    exec (ldRegAtHl r) s = .next (loadRegMem r .hl (s.opaddr false) s) := by
  cases r <;> rfl

theorem exec_ldAtHlReg (r : Gpr) :
    exec (ldAtHlReg r) s = .next (storeRegMem .hl r (s.opaddr false) s) := by
  cases r <;> rfl

theorem exec_ld_atHL_d8 : exec .ld_atHL_d8 s = .next (storeImmHl (s.opaddr false) s) := rfl

theorem exec_ld_A_atBC : exec .ld_A_atBC s = .next (loadRegMem .a .bc (s.opaddr false) s) := rfl

theorem exec_ld_A_atDE : exec .ld_A_atDE s = .next (loadRegMem .a .de (s.opaddr false) s) := rfl

theorem exec_ld_atBC_A : exec .ld_atBC_A s = .next (storeRegMem .bc .a (s.opaddr false) s) := rfl

theorem exec_ld_atDE_A : exec .ld_atDE_A s = .next (storeRegMem .de .a (s.opaddr false) s) := rfl

theorem exec_ld_atHLinc_A : exec .ld_atHLinc_A s = .next (storeAHlStep 1 (s.opaddr false) s) := rfl

theorem exec_ld_atHLdec_A : exec .ld_atHLdec_A s = .next (storeAHlStep (-1) (s.opaddr false) s) := rfl

theorem exec_ld_atC_A : exec .ld_atC_A s = .next (storeAHighC (s.opaddr false) s) := rfl

theorem exec_ldh_a8_A : exec .ldh_a8_A s = .next (storeAHighImm (s.opaddr false) s) := rfl

theorem exec_ld_a16_A : exec .ld_a16_A s = .next (storeAAbs (s.opaddr false) s) := rfl

theorem exec_xorReg (r : Gpr) :
    exec (xorReg r) s = .next (xorA r (s.opaddr false) s) := by
  cases r <;> rfl

theorem exec_bitReg (n : Fin 8) (r : Gpr) :
    exec (bitReg n r) s = .next (bitTest n r (s.opaddr true) s) := by
  fin_cases n <;> cases r <;> rfl

theorem exec_jrCond (cc : Cond) :
    exec (jrCond cc) s = .next (jumpRelative cc (s.opaddr false) s) := by
  cases cc <;> rfl

theorem exec_incReg (r : Gpr) :
    exec (incReg r) s = .next (incReg8 r (s.opaddr false) s) := by
  cases r <;> rfl

theorem exec_decReg (r : Gpr) :
    exec (decReg r) s = .next (decReg8 r (s.opaddr false) s) := by
  cases r <;> rfl

theorem exec_incPair (rr : PairSp) :
    exec (incPair rr) s = .next (incReg16 rr (s.opaddr false) s) := by
  cases rr <;> rfl

theorem exec_decPair (rr : PairSp) :
    exec (decPair rr) s = .next (decReg16 rr (s.opaddr false) s) := by
  cases rr <;> rfl

theorem exec_call_a16 : exec .call_a16 s = .next (callAbs (s.opaddr false) s) := rfl

theorem exec_ret : exec .ret s = .next (returnFromCall (s.opaddr false) s) := rfl

theorem exec_pushPair (rr : PairAf) :
    exec (pushPair rr) s = .next (pushReg16 rr (s.opaddr false) s) := by
  cases rr <;> rfl

theorem exec_popPair (rr : PairAf) :
    exec (popPair rr) s = .next (popReg16 rr (s.opaddr false) s) := by
  cases rr <;> rfl

theorem exec_rlReg (r : Gpr) :
    exec (rlReg r) s = .next (rotateLeft r (s.opaddr true) s) := by
  cases r <;> rfl

theorem exec_cp_d8 : exec .cp_d8 s = .next (compareImm (s.opaddr false) s) := rfl

theorem exec_addReg (r : Gpr) :
    exec (addReg r) s = .next (addA r (s.opaddr false) s) := by
  cases r <;> rfl

theorem exec_escape : exec .escape s = execEscape s := rfl

theorem exec_unmapped (op : Byte) (prefixed : Bool) :
    exec (.unmapped op prefixed) s = .fault (.unimplementedOpcode s.pc op prefixed) := rfl

end

section
open Sys2Proof.Machine

/-- What an instruction that completes leaves, one case for each family (the escape byte has the effect of
a rotation or of a bit test): the whole of what `exec` can answer as a next state. -/
inductive Effect (s : State) : Instr → State → Prop where
  | nop : Effect s .nop (noOperation (s.opaddr false) s)
  | ldPairImm (rr : PairSp) : Effect s (ldPairImm rr) (loadPairImm rr (s.opaddr false) s)
  | ld_SP_HL : Effect s .ld_SP_HL (loadSpFromHl (s.opaddr false) s)
  | ldRegReg (r : Gpr) (r' : Gpr) : Effect s (ldRegReg r r') (loadRegReg r r' (s.opaddr false) s)
  | ldRegImm (r : Gpr) : Effect s (ldRegImm r) (loadRegImm r (s.opaddr false) s)
  | ldRegAtHl (r : Gpr) : Effect s (ldRegAtHl r) (loadRegMem r .hl (s.opaddr false) s)
  | ldAtHlReg (r : Gpr) : Effect s (ldAtHlReg r) (storeRegMem .hl r (s.opaddr false) s)
  | ld_atHL_d8 : Effect s .ld_atHL_d8 (storeImmHl (s.opaddr false) s)
  | ld_A_atBC : Effect s .ld_A_atBC (loadRegMem .a .bc (s.opaddr false) s)
  | ld_A_atDE : Effect s .ld_A_atDE (loadRegMem .a .de (s.opaddr false) s)
  | ld_atBC_A : Effect s .ld_atBC_A (storeRegMem .bc .a (s.opaddr false) s)
  | ld_atDE_A : Effect s .ld_atDE_A (storeRegMem .de .a (s.opaddr false) s)
  | ld_atHLinc_A : Effect s .ld_atHLinc_A (storeAHlStep 1 (s.opaddr false) s)
  | ld_atHLdec_A : Effect s .ld_atHLdec_A (storeAHlStep (-1) (s.opaddr false) s)
  | ld_atC_A : Effect s .ld_atC_A (storeAHighC (s.opaddr false) s)
  | ldh_a8_A : Effect s .ldh_a8_A (storeAHighImm (s.opaddr false) s)
  | ld_a16_A : Effect s .ld_a16_A (storeAAbs (s.opaddr false) s)
  | xorReg (r : Gpr) : Effect s (xorReg r) (xorA r (s.opaddr false) s)
  | bitReg (n : Fin 8) (r : Gpr) : Effect s (bitReg n r) (bitTest n r (s.opaddr true) s)
  | jrCond (cc : Cond) : Effect s (jrCond cc) (jumpRelative cc (s.opaddr false) s)
  | incReg (r : Gpr) : Effect s (incReg r) (incReg8 r (s.opaddr false) s)
  | decReg (r : Gpr) : Effect s (decReg r) (decReg8 r (s.opaddr false) s)
  | incPair (rr : PairSp) : Effect s (incPair rr) (incReg16 rr (s.opaddr false) s)
  | decPair (rr : PairSp) : Effect s (decPair rr) (decReg16 rr (s.opaddr false) s)
  | call_a16 : Effect s .call_a16 (callAbs (s.opaddr false) s)
  | ret : Effect s .ret (returnFromCall (s.opaddr false) s)
  | pushPair (rr : PairAf) : Effect s (pushPair rr) (pushReg16 rr (s.opaddr false) s)
  | popPair (rr : PairAf) : Effect s (popPair rr) (popReg16 rr (s.opaddr false) s)
  | rlReg (r : Gpr) : Effect s (rlReg r) (rotateLeft r (s.opaddr true) s)
  | cp_d8 : Effect s .cp_d8 (compareImm (s.opaddr false) s)
  | addReg (r : Gpr) : Effect s (addReg r) (addA r (s.opaddr false) s)
  | escapeRl (r : Gpr) : Effect s .escape (rotateLeft r (s.opaddr true) s)
  | escapeBit (n : Fin 8) (r : Gpr) : Effect s .escape (bitTest n r (s.opaddr true) s)

/-- Where `exec` answers a next state, it is the one the family's operation gives. -/
theorem effect_of_next {s t : State} {i : Instr} (h : exec i s = .next t) : Effect s i t := by
  cases family i with
  | nop =>
    cases h
    exact .nop
  | ldPairImm rr =>
    rw [exec_ldPairImm] at h
    cases h
    exact .ldPairImm rr
  | ld_SP_HL =>
    cases h
    exact .ld_SP_HL
  | ldRegReg r r' =>
    rw [exec_ldRegReg] at h
    cases h
    exact .ldRegReg r r'
  | ldRegImm r =>
    rw [exec_ldRegImm] at h
    cases h
    exact .ldRegImm r
  | ldRegAtHl r =>
    rw [exec_ldRegAtHl] at h
    cases h
    exact .ldRegAtHl r
  | ldAtHlReg r =>
    rw [exec_ldAtHlReg] at h
    cases h
    exact .ldAtHlReg r
  | ld_atHL_d8 =>
    cases h
    exact .ld_atHL_d8
  | ld_A_atBC =>
    cases h
    exact .ld_A_atBC
  | ld_A_atDE =>
    cases h
    exact .ld_A_atDE
  | ld_atBC_A =>
    cases h
    exact .ld_atBC_A
  | ld_atDE_A =>
    cases h
    exact .ld_atDE_A
  | ld_atHLinc_A =>
    cases h
    exact .ld_atHLinc_A
  | ld_atHLdec_A =>
    cases h
    exact .ld_atHLdec_A
  | ld_atC_A =>
    cases h
    exact .ld_atC_A
  | ldh_a8_A =>
    cases h
    exact .ldh_a8_A
  | ld_a16_A =>
    cases h
    exact .ld_a16_A
  | xorReg r =>
    rw [exec_xorReg] at h
    cases h
    exact .xorReg r
  | bitReg n r =>
    rw [exec_bitReg] at h
    cases h
    exact .bitReg n r
  | jrCond cc =>
    rw [exec_jrCond] at h
    cases h
    exact .jrCond cc
  | incReg r =>
    rw [exec_incReg] at h
    cases h
    exact .incReg r
  | decReg r =>
    rw [exec_decReg] at h
    cases h
    exact .decReg r
  | incPair rr =>
    rw [exec_incPair] at h
    cases h
    exact .incPair rr
  | decPair rr =>
    rw [exec_decPair] at h
    cases h
    exact .decPair rr
  | call_a16 =>
    cases h
    exact .call_a16
  | ret =>
    cases h
    exact .ret
  | pushPair rr =>
    rw [exec_pushPair] at h
    cases h
    exact .pushPair rr
  | popPair rr =>
    rw [exec_popPair] at h
    cases h
    exact .popPair rr
  | rlReg r =>
    rw [exec_rlReg] at h
    cases h
    exact .rlReg r
  | cp_d8 =>
    cases h
    exact .cp_d8
  | addReg r =>
    rw [exec_addReg] at h
    cases h
    exact .addReg r
  | escape =>
    rw [exec_escape] at h
    rcases execEscape_cases s with ⟨operation, ho, he⟩ | ⟨-, he⟩
    · rw [he] at h
      cases h
      rcases prefixedOperation_cases ho with ⟨r, rfl⟩ | ⟨n, r, rfl⟩
      · exact .escapeRl r
      · exact .escapeBit n r
    · rw [he] at h
      cases h
  | unmapped op prefixed => cases h

end

section
open Sys2Proof.Machine
variable (s : State)

/-- A byte that is not the escape byte is the opcode, looked up in the plain table. -/
theorem fetch_plain (h : s.read s.pc ≠ Config.escapeByte) : fetch s = decodeOpcode (s.read s.pc) false := if_neg h

/-- After the escape byte the next byte is the opcode, looked up in the prefixed table. -/
theorem fetch_prefixed (h : s.read s.pc = Config.escapeByte) : fetch s = decodeOpcode (s.read (s.pc + 1)) true :=
  if_pos h

end

end Sys2Proof.Laws
end

