-- ==== Sys2Proof/Laws/PerInstr.lean ====
section
/-!
SUPPORT. A property of every instruction as syntax, one lemma per constructor: its opcode bytes are one
byte, or the escape byte and one byte (spec/30_encoding.md R50).
-/
namespace Sys2Proof.Laws.OpcodeBytes

/-- The opcode bytes of an instruction: one byte, or the escape byte and the opcode byte after it. -/
def Statement (i : Instr) : Prop := ∃ op : Byte, encode i = [op] ∨ encode i = [Config.escapeByte, op]

theorem nop : Statement .nop := ⟨0x00, .inl rfl⟩
theorem ld_BC_d16 : Statement .ld_BC_d16 := ⟨0x01, .inl rfl⟩
theorem ld_DE_d16 : Statement .ld_DE_d16 := ⟨0x11, .inl rfl⟩
theorem ld_HL_d16 : Statement .ld_HL_d16 := ⟨0x21, .inl rfl⟩
theorem ld_SP_d16 : Statement .ld_SP_d16 := ⟨0x31, .inl rfl⟩
theorem ld_SP_HL : Statement .ld_SP_HL := ⟨0xF9, .inl rfl⟩
theorem ld_B_B : Statement .ld_B_B := ⟨0x40, .inl rfl⟩
theorem ld_B_C : Statement .ld_B_C := ⟨0x41, .inl rfl⟩
theorem ld_B_D : Statement .ld_B_D := ⟨0x42, .inl rfl⟩
theorem ld_B_E : Statement .ld_B_E := ⟨0x43, .inl rfl⟩
theorem ld_B_H : Statement .ld_B_H := ⟨0x44, .inl rfl⟩
theorem ld_B_L : Statement .ld_B_L := ⟨0x45, .inl rfl⟩
theorem ld_B_A : Statement .ld_B_A := ⟨0x47, .inl rfl⟩
theorem ld_C_B : Statement .ld_C_B := ⟨0x48, .inl rfl⟩
theorem ld_C_C : Statement .ld_C_C := ⟨0x49, .inl rfl⟩
theorem ld_C_D : Statement .ld_C_D := ⟨0x4A, .inl rfl⟩
theorem ld_C_E : Statement .ld_C_E := ⟨0x4B, .inl rfl⟩
theorem ld_C_H : Statement .ld_C_H := ⟨0x4C, .inl rfl⟩
theorem ld_C_L : Statement .ld_C_L := ⟨0x4D, .inl rfl⟩
theorem ld_C_A : Statement .ld_C_A := ⟨0x4F, .inl rfl⟩
theorem ld_D_B : Statement .ld_D_B := ⟨0x50, .inl rfl⟩
theorem ld_D_C : Statement .ld_D_C := ⟨0x51, .inl rfl⟩
theorem ld_D_D : Statement .ld_D_D := ⟨0x52, .inl rfl⟩
theorem ld_D_E : Statement .ld_D_E := ⟨0x53, .inl rfl⟩
theorem ld_D_H : Statement .ld_D_H := ⟨0x54, .inl rfl⟩
theorem ld_D_L : Statement .ld_D_L := ⟨0x55, .inl rfl⟩
theorem ld_D_A : Statement .ld_D_A := ⟨0x57, .inl rfl⟩
theorem ld_E_B : Statement .ld_E_B := ⟨0x58, .inl rfl⟩
theorem ld_E_C : Statement .ld_E_C := ⟨0x59, .inl rfl⟩
theorem ld_E_D : Statement .ld_E_D := ⟨0x5A, .inl rfl⟩
theorem ld_E_E : Statement .ld_E_E := ⟨0x5B, .inl rfl⟩
theorem ld_E_H : Statement .ld_E_H := ⟨0x5C, .inl rfl⟩
theorem ld_E_L : Statement .ld_E_L := ⟨0x5D, .inl rfl⟩
theorem ld_E_A : Statement .ld_E_A := ⟨0x5F, .inl rfl⟩
theorem ld_H_B : Statement .ld_H_B := ⟨0x60, .inl rfl⟩
theorem ld_H_C : Statement .ld_H_C := ⟨0x61, .inl rfl⟩
theorem ld_H_D : Statement .ld_H_D := ⟨0x62, .inl rfl⟩
theorem ld_H_E : Statement .ld_H_E := ⟨0x63, .inl rfl⟩
theorem ld_H_H : Statement .ld_H_H := ⟨0x64, .inl rfl⟩
theorem ld_H_L : Statement .ld_H_L := ⟨0x65, .inl rfl⟩
theorem ld_H_A : Statement .ld_H_A := ⟨0x67, .inl rfl⟩
theorem ld_L_B : Statement .ld_L_B := ⟨0x68, .inl rfl⟩
theorem ld_L_C : Statement .ld_L_C := ⟨0x69, .inl rfl⟩
theorem ld_L_D : Statement .ld_L_D := ⟨0x6A, .inl rfl⟩
theorem ld_L_E : Statement .ld_L_E := ⟨0x6B, .inl rfl⟩
theorem ld_L_H : Statement .ld_L_H := ⟨0x6C, .inl rfl⟩
theorem ld_L_L : Statement .ld_L_L := ⟨0x6D, .inl rfl⟩
theorem ld_L_A : Statement .ld_L_A := ⟨0x6F, .inl rfl⟩
theorem ld_A_B : Statement .ld_A_B := ⟨0x78, .inl rfl⟩
theorem ld_A_C : Statement .ld_A_C := ⟨0x79, .inl rfl⟩
theorem ld_A_D : Statement .ld_A_D := ⟨0x7A, .inl rfl⟩
theorem ld_A_E : Statement .ld_A_E := ⟨0x7B, .inl rfl⟩
theorem ld_A_H : Statement .ld_A_H := ⟨0x7C, .inl rfl⟩
theorem ld_A_L : Statement .ld_A_L := ⟨0x7D, .inl rfl⟩
theorem ld_A_A : Statement .ld_A_A := ⟨0x7F, .inl rfl⟩
theorem ld_B_d8 : Statement .ld_B_d8 := ⟨0x06, .inl rfl⟩
theorem ld_C_d8 : Statement .ld_C_d8 := ⟨0x0E, .inl rfl⟩
theorem ld_D_d8 : Statement .ld_D_d8 := ⟨0x16, .inl rfl⟩
theorem ld_E_d8 : Statement .ld_E_d8 := ⟨0x1E, .inl rfl⟩
theorem ld_H_d8 : Statement .ld_H_d8 := ⟨0x26, .inl rfl⟩
theorem ld_L_d8 : Statement .ld_L_d8 := ⟨0x2E, .inl rfl⟩
theorem ld_A_d8 : Statement .ld_A_d8 := ⟨0x3E, .inl rfl⟩
theorem ld_B_atHL : Statement .ld_B_atHL := ⟨0x46, .inl rfl⟩
theorem ld_C_atHL : Statement .ld_C_atHL := ⟨0x4E, .inl rfl⟩
theorem ld_D_atHL : Statement .ld_D_atHL := ⟨0x56, .inl rfl⟩
theorem ld_E_atHL : Statement .ld_E_atHL := ⟨0x5E, .inl rfl⟩
theorem ld_H_atHL : Statement .ld_H_atHL := ⟨0x66, .inl rfl⟩
theorem ld_L_atHL : Statement .ld_L_atHL := ⟨0x6E, .inl rfl⟩
theorem ld_A_atHL : Statement .ld_A_atHL := ⟨0x7E, .inl rfl⟩
theorem ld_atHL_B : Statement .ld_atHL_B := ⟨0x70, .inl rfl⟩
theorem ld_atHL_C : Statement .ld_atHL_C := ⟨0x71, .inl rfl⟩
theorem ld_atHL_D : Statement .ld_atHL_D := ⟨0x72, .inl rfl⟩
theorem ld_atHL_E : Statement .ld_atHL_E := ⟨0x73, .inl rfl⟩
theorem ld_atHL_H : Statement .ld_atHL_H := ⟨0x74, .inl rfl⟩
theorem ld_atHL_L : Statement .ld_atHL_L := ⟨0x75, .inl rfl⟩
theorem ld_atHL_A : Statement .ld_atHL_A := ⟨0x77, .inl rfl⟩
theorem ld_atHL_d8 : Statement .ld_atHL_d8 := ⟨0x36, .inl rfl⟩
theorem ld_A_atBC : Statement .ld_A_atBC := ⟨0x0A, .inl rfl⟩
theorem ld_A_atDE : Statement .ld_A_atDE := ⟨0x1A, .inl rfl⟩
theorem ld_atBC_A : Statement .ld_atBC_A := ⟨0x02, .inl rfl⟩
theorem ld_atDE_A : Statement .ld_atDE_A := ⟨0x12, .inl rfl⟩
theorem ld_atHLinc_A : Statement .ld_atHLinc_A := ⟨0x22, .inl rfl⟩
theorem ld_atHLdec_A : Statement .ld_atHLdec_A := ⟨0x32, .inl rfl⟩
theorem ld_atC_A : Statement .ld_atC_A := ⟨0xE2, .inl rfl⟩
theorem ldh_a8_A : Statement .ldh_a8_A := ⟨0xE0, .inl rfl⟩
theorem ld_a16_A : Statement .ld_a16_A := ⟨0xEA, .inl rfl⟩
theorem xor_B : Statement .xor_B := ⟨0xA8, .inl rfl⟩
theorem xor_C : Statement .xor_C := ⟨0xA9, .inl rfl⟩
theorem xor_D : Statement .xor_D := ⟨0xAA, .inl rfl⟩
theorem xor_E : Statement .xor_E := ⟨0xAB, .inl rfl⟩
theorem xor_H : Statement .xor_H := ⟨0xAC, .inl rfl⟩
theorem xor_L : Statement .xor_L := ⟨0xAD, .inl rfl⟩
theorem xor_A : Statement .xor_A := ⟨0xAF, .inl rfl⟩
theorem bit_0_B : Statement .bit_0_B := ⟨0x40, .inr rfl⟩
theorem bit_0_C : Statement .bit_0_C := ⟨0x41, .inr rfl⟩
theorem bit_0_D : Statement .bit_0_D := ⟨0x42, .inr rfl⟩
theorem bit_0_E : Statement .bit_0_E := ⟨0x43, .inr rfl⟩
theorem bit_0_H : Statement .bit_0_H := ⟨0x44, .inr rfl⟩
theorem bit_0_L : Statement .bit_0_L := ⟨0x45, .inr rfl⟩
theorem bit_0_A : Statement .bit_0_A := ⟨0x47, .inr rfl⟩
theorem bit_1_B : Statement .bit_1_B := ⟨0x48, .inr rfl⟩
theorem bit_1_C : Statement .bit_1_C := ⟨0x49, .inr rfl⟩
theorem bit_1_D : Statement .bit_1_D := ⟨0x4A, .inr rfl⟩
theorem bit_1_E : Statement .bit_1_E := ⟨0x4B, .inr rfl⟩
theorem bit_1_H : Statement .bit_1_H := ⟨0x4C, .inr rfl⟩
theorem bit_1_L : Statement .bit_1_L := ⟨0x4D, .inr rfl⟩
theorem bit_1_A : Statement .bit_1_A := ⟨0x4F, .inr rfl⟩
theorem bit_2_B : Statement .bit_2_B := ⟨0x50, .inr rfl⟩
theorem bit_2_C : Statement .bit_2_C := ⟨0x51, .inr rfl⟩
theorem bit_2_D : Statement .bit_2_D := ⟨0x52, .inr rfl⟩
theorem bit_2_E : Statement .bit_2_E := ⟨0x53, .inr rfl⟩
theorem bit_2_H : Statement .bit_2_H := ⟨0x54, .inr rfl⟩
theorem bit_2_L : Statement .bit_2_L := ⟨0x55, .inr rfl⟩
theorem bit_2_A : Statement .bit_2_A := ⟨0x57, .inr rfl⟩
theorem bit_3_B : Statement .bit_3_B := ⟨0x58, .inr rfl⟩
theorem bit_3_C : Statement .bit_3_C := ⟨0x59, .inr rfl⟩
theorem bit_3_D : Statement .bit_3_D := ⟨0x5A, .inr rfl⟩
theorem bit_3_E : Statement .bit_3_E := ⟨0x5B, .inr rfl⟩
theorem bit_3_H : Statement .bit_3_H := ⟨0x5C, .inr rfl⟩
theorem bit_3_L : Statement .bit_3_L := ⟨0x5D, .inr rfl⟩
theorem bit_3_A : Statement .bit_3_A := ⟨0x5F, .inr rfl⟩
theorem bit_4_B : Statement .bit_4_B := ⟨0x60, .inr rfl⟩
theorem bit_4_C : Statement .bit_4_C := ⟨0x61, .inr rfl⟩
theorem bit_4_D : Statement .bit_4_D := ⟨0x62, .inr rfl⟩
theorem bit_4_E : Statement .bit_4_E := ⟨0x63, .inr rfl⟩
theorem bit_4_H : Statement .bit_4_H := ⟨0x64, .inr rfl⟩
theorem bit_4_L : Statement .bit_4_L := ⟨0x65, .inr rfl⟩
theorem bit_4_A : Statement .bit_4_A := ⟨0x67, .inr rfl⟩
theorem bit_5_B : Statement .bit_5_B := ⟨0x68, .inr rfl⟩
theorem bit_5_C : Statement .bit_5_C := ⟨0x69, .inr rfl⟩
theorem bit_5_D : Statement .bit_5_D := ⟨0x6A, .inr rfl⟩
theorem bit_5_E : Statement .bit_5_E := ⟨0x6B, .inr rfl⟩
theorem bit_5_H : Statement .bit_5_H := ⟨0x6C, .inr rfl⟩
theorem bit_5_L : Statement .bit_5_L := ⟨0x6D, .inr rfl⟩
theorem bit_5_A : Statement .bit_5_A := ⟨0x6F, .inr rfl⟩
theorem bit_6_B : Statement .bit_6_B := ⟨0x70, .inr rfl⟩
theorem bit_6_C : Statement .bit_6_C := ⟨0x71, .inr rfl⟩
theorem bit_6_D : Statement .bit_6_D := ⟨0x72, .inr rfl⟩
theorem bit_6_E : Statement .bit_6_E := ⟨0x73, .inr rfl⟩
theorem bit_6_H : Statement .bit_6_H := ⟨0x74, .inr rfl⟩
theorem bit_6_L : Statement .bit_6_L := ⟨0x75, .inr rfl⟩
theorem bit_6_A : Statement .bit_6_A := ⟨0x77, .inr rfl⟩
theorem bit_7_B : Statement .bit_7_B := ⟨0x78, .inr rfl⟩
theorem bit_7_C : Statement .bit_7_C := ⟨0x79, .inr rfl⟩
theorem bit_7_D : Statement .bit_7_D := ⟨0x7A, .inr rfl⟩
theorem bit_7_E : Statement .bit_7_E := ⟨0x7B, .inr rfl⟩
theorem bit_7_H : Statement .bit_7_H := ⟨0x7C, .inr rfl⟩
theorem bit_7_L : Statement .bit_7_L := ⟨0x7D, .inr rfl⟩
theorem bit_7_A : Statement .bit_7_A := ⟨0x7F, .inr rfl⟩
theorem jr_NZ : Statement .jr_NZ := ⟨0x20, .inl rfl⟩
theorem jr_Z : Statement .jr_Z := ⟨0x28, .inl rfl⟩
theorem inc_B : Statement .inc_B := ⟨0x04, .inl rfl⟩
theorem inc_C : Statement .inc_C := ⟨0x0C, .inl rfl⟩
theorem inc_D : Statement .inc_D := ⟨0x14, .inl rfl⟩
theorem inc_E : Statement .inc_E := ⟨0x1C, .inl rfl⟩
theorem inc_H : Statement .inc_H := ⟨0x24, .inl rfl⟩
theorem inc_L : Statement .inc_L := ⟨0x2C, .inl rfl⟩
theorem inc_A : Statement .inc_A := ⟨0x3C, .inl rfl⟩
theorem dec_B : Statement .dec_B := ⟨0x05, .inl rfl⟩
theorem dec_C : Statement .dec_C := ⟨0x0D, .inl rfl⟩
theorem dec_D : Statement .dec_D := ⟨0x15, .inl rfl⟩
theorem dec_E : Statement .dec_E := ⟨0x1D, .inl rfl⟩
theorem dec_H : Statement .dec_H := ⟨0x25, .inl rfl⟩
theorem dec_L : Statement .dec_L := ⟨0x2D, .inl rfl⟩
theorem dec_A : Statement .dec_A := ⟨0x3D, .inl rfl⟩
theorem inc_BC : Statement .inc_BC := ⟨0x03, .inl rfl⟩
theorem inc_DE : Statement .inc_DE := ⟨0x13, .inl rfl⟩
theorem inc_HL : Statement .inc_HL := ⟨0x23, .inl rfl⟩
theorem inc_SP : Statement .inc_SP := ⟨0x33, .inl rfl⟩
theorem dec_BC : Statement .dec_BC := ⟨0x0B, .inl rfl⟩
theorem dec_DE : Statement .dec_DE := ⟨0x1B, .inl rfl⟩
theorem dec_HL : Statement .dec_HL := ⟨0x2B, .inl rfl⟩
theorem dec_SP : Statement .dec_SP := ⟨0x3B, .inl rfl⟩
theorem call_a16 : Statement .call_a16 := ⟨0xCD, .inl rfl⟩
theorem ret : Statement .ret := ⟨0xC9, .inl rfl⟩
theorem push_BC : Statement .push_BC := ⟨0xC5, .inl rfl⟩
theorem push_DE : Statement .push_DE := ⟨0xD5, .inl rfl⟩
theorem push_HL : Statement .push_HL := ⟨0xE5, .inl rfl⟩
theorem push_AF : Statement .push_AF := ⟨0xF5, .inl rfl⟩
theorem pop_BC : Statement .pop_BC := ⟨0xC1, .inl rfl⟩
theorem pop_DE : Statement .pop_DE := ⟨0xD1, .inl rfl⟩
theorem pop_HL : Statement .pop_HL := ⟨0xE1, .inl rfl⟩
theorem pop_AF : Statement .pop_AF := ⟨0xF1, .inl rfl⟩
theorem rl_B : Statement .rl_B := ⟨0x10, .inr rfl⟩
theorem rl_C : Statement .rl_C := ⟨0x11, .inr rfl⟩
theorem rl_D : Statement .rl_D := ⟨0x12, .inr rfl⟩
theorem rl_E : Statement .rl_E := ⟨0x13, .inr rfl⟩
theorem rl_H : Statement .rl_H := ⟨0x14, .inr rfl⟩
theorem rl_L : Statement .rl_L := ⟨0x15, .inr rfl⟩
theorem rl_A : Statement .rl_A := ⟨0x17, .inr rfl⟩
theorem cp_d8 : Statement .cp_d8 := ⟨0xFE, .inl rfl⟩
theorem add_A_B : Statement .add_A_B := ⟨0x80, .inl rfl⟩
theorem add_A_C : Statement .add_A_C := ⟨0x81, .inl rfl⟩
theorem add_A_D : Statement .add_A_D := ⟨0x82, .inl rfl⟩
theorem add_A_E : Statement .add_A_E := ⟨0x83, .inl rfl⟩
theorem add_A_H : Statement .add_A_H := ⟨0x84, .inl rfl⟩
theorem add_A_L : Statement .add_A_L := ⟨0x85, .inl rfl⟩
theorem add_A_A : Statement .add_A_A := ⟨0x87, .inl rfl⟩
theorem escape : Statement .escape := ⟨0xCB, .inl rfl⟩

theorem unmapped (op : Byte) (prefixed : Bool) : Statement (.unmapped op prefixed) := by
  cases prefixed
  · exact ⟨op, .inl rfl⟩
  · exact ⟨op, .inr rfl⟩

end Sys2Proof.Laws.OpcodeBytes
end

