-- ==== Sys2Proof/Tests/Slice0.lean ====
section
/-!
SUPPORT. The model's own tests. The expected values are those of spec/95_test_vectors.md (its vectors
V1 to V124 and its examples E1 to E8) and of the encodings of spec/30_encoding.md, written out by hand.
-/
namespace Sys2Proof.Tests

open Sys2Proof.Machine

/-- The flags a byte of F stands for (Z = 80, N = 40, H = 20, C = 10). -/
def flags (v : Nat) : Flags := ⟨v / 128 % 2 == 1, v / 64 % 2 == 1, v / 32 % 2 == 1, v / 16 % 2 == 1⟩

/-- A start state: PC at an address, bytes from there upward. -/
def place (s : State) (addr : Word) (bytes : List Byte) : State := { s with pc := addr }.writeBytes addr bytes

/-- One step from a start state answers that state with a change. -/
abbrev stepsTo (s : State) (addr : Word) (bytes : List Byte) (change : State → State) : Prop :=
  nextOf (step (place s addr bytes)) = some (change (place s addr bytes))

/-- One step from a start state raises the fault with these fields. -/
abbrev stepsToFault (addr : Word) (bytes : List Byte) (byte : Byte) (prefixed : Bool) : Prop :=
  faultOf (step (place State.reset addr bytes)) = some (.unimplementedOpcode addr byte prefixed)

/-- Every word of a list is read as the instruction beside it, and is what the encoder writes for it. -/
def readsAs (rows : List (List Byte × Instr)) : Bool :=
  rows.all fun row => (match decode row.1 with
    | .ok i => i == row.2
    | .error _ => false) && encode row.2 == row.1

/-! ## WellFormed: a term each check accepts and one it refuses -/

theorem test_wf_unmapped_plain : (Instr.unmapped 0xD3 false).wf = true := by decide
theorem test_wf_unmapped_prefixed : (Instr.unmapped 0xCB true).wf = true := by decide
theorem test_wf_refuses_mapped_plain : (Instr.unmapped 0x00 false).wf = false := by decide
theorem test_wf_refuses_escape : (Instr.unmapped 0xCB false).wf = false := by decide
theorem test_wf_refuses_mapped_prefixed : (Instr.unmapped 0x7C true).wf = false := by decide
theorem test_wf_mapped : Instr.bit_7_H.wf = true := by decide

/-! ## Decoding: every word of the encodings, bit by bit -/

/-- The encodings of R51. -/
theorem test_decode_r51 : readsAs [
    ([0b11001011], .escape) ] = true := by decide

/-- The encodings of R70. -/
theorem test_decode_r70 : readsAs [
    ([0b00000000], .nop) ] = true := by decide

/-- The encodings of R71. -/
theorem test_decode_r71 : readsAs [
    ([0b00000001], .ld_BC_d16), ([0b00010001], .ld_DE_d16), ([0b00100001], .ld_HL_d16),
    ([0b00110001], .ld_SP_d16) ] = true := by decide

/-- The encodings of R72. -/
theorem test_decode_r72 : readsAs [
    ([0b11111001], .ld_SP_HL) ] = true := by decide

/-- The encodings of R76. -/
theorem test_decode_r76_0 : readsAs [
    ([0b01000000], .ld_B_B), ([0b01000001], .ld_B_C), ([0b01000010], .ld_B_D), ([0b01000011], .ld_B_E),
    ([0b01000100], .ld_B_H), ([0b01000101], .ld_B_L), ([0b01000111], .ld_B_A), ([0b01001000], .ld_C_B),
    ([0b01001001], .ld_C_C), ([0b01001010], .ld_C_D), ([0b01001011], .ld_C_E), ([0b01001100], .ld_C_H),
    ([0b01001101], .ld_C_L), ([0b01001111], .ld_C_A), ([0b01010000], .ld_D_B), ([0b01010001], .ld_D_C),
    ([0b01010010], .ld_D_D), ([0b01010011], .ld_D_E), ([0b01010100], .ld_D_H), ([0b01010101], .ld_D_L),
    ([0b01010111], .ld_D_A), ([0b01011000], .ld_E_B), ([0b01011001], .ld_E_C), ([0b01011010], .ld_E_D),
    ([0b01011011], .ld_E_E), ([0b01011100], .ld_E_H), ([0b01011101], .ld_E_L), ([0b01011111], .ld_E_A) ] = true := by decide

/-- The encodings of R76. -/
theorem test_decode_r76_1 : readsAs [
    ([0b01100000], .ld_H_B), ([0b01100001], .ld_H_C), ([0b01100010], .ld_H_D), ([0b01100011], .ld_H_E),
    ([0b01100100], .ld_H_H), ([0b01100101], .ld_H_L), ([0b01100111], .ld_H_A), ([0b01101000], .ld_L_B),
    ([0b01101001], .ld_L_C), ([0b01101010], .ld_L_D), ([0b01101011], .ld_L_E), ([0b01101100], .ld_L_H),
    ([0b01101101], .ld_L_L), ([0b01101111], .ld_L_A), ([0b01111000], .ld_A_B), ([0b01111001], .ld_A_C),
    ([0b01111010], .ld_A_D), ([0b01111011], .ld_A_E), ([0b01111100], .ld_A_H), ([0b01111101], .ld_A_L),
    ([0b01111111], .ld_A_A) ] = true := by decide

/-- The encodings of R77. -/
theorem test_decode_r77 : readsAs [
    ([0b00000110], .ld_B_d8), ([0b00001110], .ld_C_d8), ([0b00010110], .ld_D_d8), ([0b00011110], .ld_E_d8),
    ([0b00100110], .ld_H_d8), ([0b00101110], .ld_L_d8), ([0b00111110], .ld_A_d8) ] = true := by decide

/-- The encodings of R78. -/
theorem test_decode_r78 : readsAs [
    ([0b01000110], .ld_B_atHL), ([0b01001110], .ld_C_atHL), ([0b01010110], .ld_D_atHL),
    ([0b01011110], .ld_E_atHL), ([0b01100110], .ld_H_atHL), ([0b01101110], .ld_L_atHL),
    ([0b01111110], .ld_A_atHL) ] = true := by decide

/-- The encodings of R79. -/
theorem test_decode_r79 : readsAs [
    ([0b01110000], .ld_atHL_B), ([0b01110001], .ld_atHL_C), ([0b01110010], .ld_atHL_D),
    ([0b01110011], .ld_atHL_E), ([0b01110100], .ld_atHL_H), ([0b01110101], .ld_atHL_L),
    ([0b01110111], .ld_atHL_A) ] = true := by decide

/-- The encodings of R80. -/
theorem test_decode_r80 : readsAs [
    ([0b00110110], .ld_atHL_d8) ] = true := by decide

/-- The encodings of R81. -/
theorem test_decode_r81 : readsAs [
    ([0b00001010], .ld_A_atBC) ] = true := by decide

/-- The encodings of R82. -/
theorem test_decode_r82 : readsAs [
    ([0b00011010], .ld_A_atDE) ] = true := by decide

/-- The encodings of R83. -/
theorem test_decode_r83 : readsAs [
    ([0b00000010], .ld_atBC_A) ] = true := by decide

/-- The encodings of R84. -/
theorem test_decode_r84 : readsAs [
    ([0b00010010], .ld_atDE_A) ] = true := by decide

/-- The encodings of R85. -/
theorem test_decode_r85 : readsAs [
    ([0b00100010], .ld_atHLinc_A) ] = true := by decide

/-- The encodings of R86. -/
theorem test_decode_r86 : readsAs [
    ([0b00110010], .ld_atHLdec_A) ] = true := by decide

/-- The encodings of R87. -/
theorem test_decode_r87 : readsAs [
    ([0b11100010], .ld_atC_A) ] = true := by decide

/-- The encodings of R88. -/
theorem test_decode_r88 : readsAs [
    ([0b11100000], .ldh_a8_A) ] = true := by decide

/-- The encodings of R89. -/
theorem test_decode_r89 : readsAs [
    ([0b11101010], .ld_a16_A) ] = true := by decide

/-- The encodings of R95. -/
theorem test_decode_r95 : readsAs [
    ([0b10101000], .xor_B), ([0b10101001], .xor_C), ([0b10101010], .xor_D), ([0b10101011], .xor_E),
    ([0b10101100], .xor_H), ([0b10101101], .xor_L), ([0b10101111], .xor_A) ] = true := by decide

/-- The encodings of R98. -/
theorem test_decode_r98_0 : readsAs [
    ([0b11001011, 0b01000000], .bit_0_B), ([0b11001011, 0b01000001], .bit_0_C),
    ([0b11001011, 0b01000010], .bit_0_D), ([0b11001011, 0b01000011], .bit_0_E),
    ([0b11001011, 0b01000100], .bit_0_H), ([0b11001011, 0b01000101], .bit_0_L),
    ([0b11001011, 0b01000111], .bit_0_A), ([0b11001011, 0b01001000], .bit_1_B),
    ([0b11001011, 0b01001001], .bit_1_C), ([0b11001011, 0b01001010], .bit_1_D),
    ([0b11001011, 0b01001011], .bit_1_E), ([0b11001011, 0b01001100], .bit_1_H),
    ([0b11001011, 0b01001101], .bit_1_L), ([0b11001011, 0b01001111], .bit_1_A),
    ([0b11001011, 0b01010000], .bit_2_B), ([0b11001011, 0b01010001], .bit_2_C),
    ([0b11001011, 0b01010010], .bit_2_D), ([0b11001011, 0b01010011], .bit_2_E),
    ([0b11001011, 0b01010100], .bit_2_H), ([0b11001011, 0b01010101], .bit_2_L),
    ([0b11001011, 0b01010111], .bit_2_A), ([0b11001011, 0b01011000], .bit_3_B),
    ([0b11001011, 0b01011001], .bit_3_C), ([0b11001011, 0b01011010], .bit_3_D),
    ([0b11001011, 0b01011011], .bit_3_E), ([0b11001011, 0b01011100], .bit_3_H),
    ([0b11001011, 0b01011101], .bit_3_L), ([0b11001011, 0b01011111], .bit_3_A) ] = true := by decide

/-- The encodings of R98. -/
theorem test_decode_r98_1 : readsAs [
    ([0b11001011, 0b01100000], .bit_4_B), ([0b11001011, 0b01100001], .bit_4_C),
    ([0b11001011, 0b01100010], .bit_4_D), ([0b11001011, 0b01100011], .bit_4_E),
    ([0b11001011, 0b01100100], .bit_4_H), ([0b11001011, 0b01100101], .bit_4_L),
    ([0b11001011, 0b01100111], .bit_4_A), ([0b11001011, 0b01101000], .bit_5_B),
    ([0b11001011, 0b01101001], .bit_5_C), ([0b11001011, 0b01101010], .bit_5_D),
    ([0b11001011, 0b01101011], .bit_5_E), ([0b11001011, 0b01101100], .bit_5_H),
    ([0b11001011, 0b01101101], .bit_5_L), ([0b11001011, 0b01101111], .bit_5_A),
    ([0b11001011, 0b01110000], .bit_6_B), ([0b11001011, 0b01110001], .bit_6_C),
    ([0b11001011, 0b01110010], .bit_6_D), ([0b11001011, 0b01110011], .bit_6_E),
    ([0b11001011, 0b01110100], .bit_6_H), ([0b11001011, 0b01110101], .bit_6_L),
    ([0b11001011, 0b01110111], .bit_6_A), ([0b11001011, 0b01111000], .bit_7_B),
    ([0b11001011, 0b01111001], .bit_7_C), ([0b11001011, 0b01111010], .bit_7_D),
    ([0b11001011, 0b01111011], .bit_7_E), ([0b11001011, 0b01111100], .bit_7_H),
    ([0b11001011, 0b01111101], .bit_7_L), ([0b11001011, 0b01111111], .bit_7_A) ] = true := by decide

/-- The encodings of R101. -/
theorem test_decode_r101 : readsAs [
    ([0b00100000], .jr_NZ) ] = true := by decide

/-- The encodings of R102. -/
theorem test_decode_r102 : readsAs [
    ([0b00101000], .jr_Z) ] = true := by decide

/-- The encodings of R105. -/
theorem test_decode_r105 : readsAs [
    ([0b00000100], .inc_B), ([0b00001100], .inc_C), ([0b00010100], .inc_D), ([0b00011100], .inc_E),
    ([0b00100100], .inc_H), ([0b00101100], .inc_L), ([0b00111100], .inc_A) ] = true := by decide

/-- The encodings of R106. -/
theorem test_decode_r106 : readsAs [
    ([0b00000101], .dec_B), ([0b00001101], .dec_C), ([0b00010101], .dec_D), ([0b00011101], .dec_E),
    ([0b00100101], .dec_H), ([0b00101101], .dec_L), ([0b00111101], .dec_A) ] = true := by decide

/-- The encodings of R107. -/
theorem test_decode_r107 : readsAs [
    ([0b00000011], .inc_BC), ([0b00010011], .inc_DE), ([0b00100011], .inc_HL), ([0b00110011], .inc_SP) ] = true := by decide

/-- The encodings of R108. -/
theorem test_decode_r108 : readsAs [
    ([0b00001011], .dec_BC), ([0b00011011], .dec_DE), ([0b00101011], .dec_HL), ([0b00111011], .dec_SP) ] = true := by decide

/-- The encodings of R110. -/
theorem test_decode_r110 : readsAs [
    ([0b11001101], .call_a16) ] = true := by decide

/-- The encodings of R111. -/
theorem test_decode_r111 : readsAs [
    ([0b11001001], .ret) ] = true := by decide

/-- The encodings of R115. -/
theorem test_decode_r115 : readsAs [
    ([0b11000101], .push_BC), ([0b11010101], .push_DE), ([0b11100101], .push_HL), ([0b11110101], .push_AF) ] = true := by decide

/-- The encodings of R116. -/
theorem test_decode_r116 : readsAs [
    ([0b11000001], .pop_BC), ([0b11010001], .pop_DE), ([0b11100001], .pop_HL), ([0b11110001], .pop_AF) ] = true := by decide

/-- The encodings of R120. -/
theorem test_decode_r120 : readsAs [
    ([0b11001011, 0b00010000], .rl_B), ([0b11001011, 0b00010001], .rl_C), ([0b11001011, 0b00010010], .rl_D),
    ([0b11001011, 0b00010011], .rl_E), ([0b11001011, 0b00010100], .rl_H), ([0b11001011, 0b00010101], .rl_L),
    ([0b11001011, 0b00010111], .rl_A) ] = true := by decide

/-- The encodings of R123. -/
theorem test_decode_r123 : readsAs [
    ([0b11111110], .cp_d8) ] = true := by decide

/-- The encodings of R124. -/
theorem test_decode_r124 : readsAs [
    ([0b10000000], .add_A_B), ([0b10000001], .add_A_C), ([0b10000010], .add_A_D), ([0b10000011], .add_A_E),
    ([0b10000100], .add_A_H), ([0b10000101], .add_A_L), ([0b10000111], .add_A_A) ] = true := by decide

/-! ## One step: the vectors of spec/95_test_vectors.md section 2 -/

/-- V1: `NOP`. -/
theorem test_v1_nop :
    stepsTo State.reset 0x0000 [0x00]
      fun s => { s with pc := 0x0001 } := by decide

/-- V2: `NOP`. -/
theorem test_v2_nop :
    stepsTo State.reset 0xFFFF [0x00]
      fun s => { s with pc := 0x0000 } := by decide

/-- V3: `LD SP,d16`. -/
theorem test_v3_ld_SP_d16 :
    stepsTo State.reset 0x0000 [0x31, 0xFE, 0xFF]
      fun s => { s with pc := 0x0003 } := by decide

/-- V4: `LD HL,d16`. -/
theorem test_v4_ld_HL_d16 :
    stepsTo State.reset 0x0000 [0x21, 0xFF, 0x9F]
      fun s => { s with h := 0x9F, l := 0xFF, pc := 0x0003 } := by decide

/-- V5: `LD BC,d16`. -/
theorem test_v5_ld_BC_d16 :
    stepsTo State.reset 0x0000 [0x01, 0x34, 0x12]
      fun s => { s with b := 0x12, c := 0x34, pc := 0x0003 } := by decide

/-- V6: `LD DE,d16`. -/
theorem test_v6_ld_DE_d16 :
    stepsTo State.reset 0x0000 [0x11, 0xD8, 0xFF]
      fun s => { s with d := 0xFF, pc := 0x0003 } := by decide

/-- V7: `LD HL,d16`. -/
theorem test_v7_ld_HL_d16 :
    stepsTo State.reset 0xFFFE [0x21, 0x34, 0x12]
      fun s => { s with h := 0x12, l := 0x34, pc := 0x0001 } := by decide

/-- V8: `LD SP,HL`. -/
theorem test_v8_ld_SP_HL :
    stepsTo { State.reset with h := 0xD0, l := 0x00 } 0x0000 [0xF9]
      fun s => { s with sp := 0xD000, pc := 0x0001 } := by decide

/-- V9: `LD A,H`. -/
theorem test_v9_ld_A_H :
    stepsTo { State.reset with h := 0x9F } 0x0000 [0x7C]
      fun s => { s with a := 0x9F, pc := 0x0001 } := by decide

/-- V10: `LD B,C`. -/
theorem test_v10_ld_B_C :
    stepsTo { State.reset with c := 0x77 } 0x0000 [0x41]
      fun s => { s with b := 0x77, pc := 0x0001 } := by decide

/-- V11: `LD A,A`. -/
theorem test_v11_ld_A_A :
    stepsTo State.reset 0x0000 [0x7F]
      fun s => { s with pc := 0x0001 } := by decide

/-- V12: `LD A,d8`. -/
theorem test_v12_ld_A_d8 :
    stepsTo State.reset 0x0000 [0x3E, 0x5A]
      fun s => { s with a := 0x5A, pc := 0x0002 } := by decide

/-- V13: `LD B,d8`. -/
theorem test_v13_ld_B_d8 :
    stepsTo State.reset 0x0000 [0x06, 0xC6]
      fun s => { s with b := 0xC6, pc := 0x0002 } := by decide

/-- V14: `LD L,d8`. -/
theorem test_v14_ld_L_d8 :
    stepsTo State.reset 0x0000 [0x2E, 0x00]
      fun s => { s with l := 0x00, pc := 0x0002 } := by decide

/-- V15: `LD A,(HL)`. -/
theorem test_v15_ld_A_atHL :
    stepsTo (({ State.reset with h := 0xC0, l := 0x00 }).write 0xC000 0x77) 0x0000 [0x7E]
      fun s => { s with a := 0x77, pc := 0x0001 } := by decide

/-- V16: `LD H,(HL)`. -/
theorem test_v16_ld_H_atHL :
    stepsTo (({ State.reset with h := 0xC0, l := 0x00 }).write 0xC000 0x12) 0x0000 [0x66]
      fun s => { s with h := 0x12, pc := 0x0001 } := by decide

/-- V17: `LD L,(HL)`. -/
theorem test_v17_ld_L_atHL :
    stepsTo (({ State.reset with h := 0xC0, l := 0x00 }).write 0xC000 0x12) 0x0000 [0x6E]
      fun s => { s with l := 0x12, pc := 0x0001 } := by decide

/-- V18: `LD (HL),A`. -/
theorem test_v18_ld_atHL_A :
    stepsTo { State.reset with h := 0x80, l := 0x10, a := 0x3C } 0x0000 [0x77]
      fun s => { (s.write 0x8010 0x3C) with pc := 0x0001 } := by decide

/-- V19: `LD (HL),H`. -/
theorem test_v19_ld_atHL_H :
    stepsTo { State.reset with h := 0xC2, l := 0x34 } 0x0000 [0x74]
      fun s => { (s.write 0xC234 0xC2) with pc := 0x0001 } := by decide

/-- V20: `LD (HL),L`. -/
theorem test_v20_ld_atHL_L :
    stepsTo { State.reset with h := 0xC2, l := 0x34 } 0x0000 [0x75]
      fun s => { (s.write 0xC234 0x34) with pc := 0x0001 } := by decide

/-- V21: `LD (HL),d8`. -/
theorem test_v21_ld_atHL_d8 :
    stepsTo { State.reset with h := 0xC1, l := 0x23 } 0x0000 [0x36, 0xAB]
      fun s => { (s.write 0xC123 0xAB) with pc := 0x0002 } := by decide

/-- V22: `LD A,(BC)`. -/
theorem test_v22_ld_A_atBC :
    stepsTo (State.reset.write 0x0013 0x9A) 0x0000 [0x0A]
      fun s => { s with a := 0x9A, pc := 0x0001 } := by decide

/-- V23: `LD A,(DE)`. -/
theorem test_v23_ld_A_atDE :
    stepsTo (({ State.reset with d := 0x01, e := 0x04 }).write 0x0104 0xCE) 0x0000 [0x1A]
      fun s => { s with a := 0xCE, pc := 0x0001 } := by decide

/-- V24: `LD (BC),A`. -/
theorem test_v24_ld_atBC_A :
    stepsTo { State.reset with b := 0xC2, c := 0x00, a := 0x11 } 0x0000 [0x02]
      fun s => { (s.write 0xC200 0x11) with pc := 0x0001 } := by decide

/-- V25: `LD (DE),A`. -/
theorem test_v25_ld_atDE_A :
    stepsTo State.reset 0x0000 [0x12]
      fun s => { (s.write 0x00D8 0x01) with pc := 0x0001 } := by decide

/-- V26: `LD (HL+),A`. -/
theorem test_v26_ld_atHLinc_A :
    stepsTo { State.reset with h := 0x80, l := 0xFF, a := 0x5A } 0x0000 [0x22]
      fun s => { (s.write 0x80FF 0x5A) with h := 0x81, l := 0x00, pc := 0x0001 } := by decide

/-- V27: `LD (HL+),A`. -/
theorem test_v27_ld_atHLinc_A :
    stepsTo { State.reset with h := 0xFF, l := 0xFF, a := 0x5A } 0x0000 [0x22]
      fun s => { (s.write 0xFFFF 0x5A) with h := 0x00, l := 0x00, pc := 0x0001 } := by decide

/-- V28: `LD (HL-),A`. -/
theorem test_v28_ld_atHLdec_A :
    stepsTo (({ State.reset with h := 0x80, l := 0x00, a := 0x00 }).write 0x8000 0xEE) 0x0000 [0x32]
      fun s => { (s.write 0x8000 0x00) with h := 0x7F, l := 0xFF, pc := 0x0001 } := by decide

/-- V29: `LD (HL-),A`. -/
theorem test_v29_ld_atHLdec_A :
    stepsTo { State.reset with h := 0x00, l := 0x00, a := 0x42 } 0x0100 [0x32]
      fun s => { (s.write 0x0000 0x42) with h := 0xFF, l := 0xFF, pc := 0x0101 } := by decide

/-- V30: `LD (C),A`. -/
theorem test_v30_ld_atC_A :
    stepsTo { State.reset with c := 0x11, a := 0x80 } 0x0000 [0xE2]
      fun s => { (s.write 0xFF11 0x80) with pc := 0x0001 } := by decide

/-- V31: `LD (C),A`. -/
theorem test_v31_ld_atC_A :
    stepsTo { State.reset with c := 0xFF, a := 0x1F } 0x0000 [0xE2]
      fun s => { (s.write 0xFFFF 0x1F) with pc := 0x0001 } := by decide

/-- V32: `LDH (a8),A`. -/
theorem test_v32_ldh_a8_A :
    stepsTo { State.reset with a := 0xFC } 0x0000 [0xE0, 0x47]
      fun s => { (s.write 0xFF47 0xFC) with pc := 0x0002 } := by decide

/-- V33: `LDH (a8),A`. -/
theorem test_v33_ldh_a8_A :
    stepsTo { State.reset with a := 0x33 } 0x0000 [0xE0, 0x80]
      fun s => { (s.write 0xFF80 0x33) with pc := 0x0002 } := by decide

/-- V34: `LD (a16),A`. -/
theorem test_v34_ld_a16_A :
    stepsTo { State.reset with a := 0x02 } 0x0000 [0xEA, 0x00, 0xC0]
      fun s => { (s.write 0xC000 0x02) with pc := 0x0003 } := by decide

/-- V35: `LD (a16),A`. -/
theorem test_v35_ld_a16_A :
    stepsTo { State.reset with a := 0x99 } 0x0000 [0xEA, 0xFF, 0xFF]
      fun s => { (s.write 0xFFFF 0x99) with pc := 0x0003 } := by decide

/-- V36: `XOR A`. -/
theorem test_v36_xor_A :
    stepsTo State.reset 0x0000 [0xAF]
      fun s => { s with a := 0x00, f := flags 0x80, pc := 0x0001 } := by decide

/-- V37: `XOR A`. -/
theorem test_v37_xor_A :
    stepsTo { State.reset with a := 0xFF, f := flags 0x00 } 0x0000 [0xAF]
      fun s => { s with a := 0x00, f := flags 0x80, pc := 0x0001 } := by decide

/-- V38: `XOR B`. -/
theorem test_v38_xor_B :
    stepsTo { State.reset with a := 0x5A, b := 0x0F } 0x0000 [0xA8]
      fun s => { s with a := 0x55, f := flags 0x00, pc := 0x0001 } := by decide

/-- V39: `XOR C`. -/
theorem test_v39_xor_C :
    stepsTo { State.reset with a := 0x13, c := 0x13, f := flags 0x70 } 0x0000 [0xA9]
      fun s => { s with a := 0x00, f := flags 0x80, pc := 0x0001 } := by decide

/-- V40: `XOR L`. -/
theorem test_v40_xor_L :
    stepsTo { State.reset with a := 0x00, l := 0x00, f := flags 0x00 } 0x0000 [0xAD]
      fun s => { s with f := flags 0x80, pc := 0x0001 } := by decide

/-- V41: `XOR H`. -/
theorem test_v41_xor_H :
    stepsTo { State.reset with a := 0xF0, h := 0x0F } 0x0000 [0xAC]
      fun s => { s with a := 0xFF, f := flags 0x00, pc := 0x0001 } := by decide

/-- V42: `BIT 7,H`. -/
theorem test_v42_bit_7_H :
    stepsTo { State.reset with h := 0x80 } 0x0000 [0xCB, 0x7C]
      fun s => { s with f := flags 0x30, pc := 0x0002 } := by decide

/-- V45: `BIT 0,B`. -/
theorem test_v45_bit_0_B :
    stepsTo { State.reset with b := 0x01, f := flags 0xF0 } 0x0000 [0xCB, 0x40]
      fun s => { s with f := flags 0x70, pc := 0x0002 } := by decide

/-- V46: `BIT 0,B`. -/
theorem test_v46_bit_0_B :
    stepsTo { State.reset with b := 0xFE, f := flags 0x70 } 0x0000 [0xCB, 0x40]
      fun s => { s with f := flags 0xF0, pc := 0x0002 } := by decide

/-- V47: `BIT 3,A`. -/
theorem test_v47_bit_3_A :
    stepsTo { State.reset with a := 0x08, f := flags 0x00 } 0x0000 [0xCB, 0x5F]
      fun s => { s with pc := 0x0002 } := by decide

/-- V48: `BIT 4,A`. -/
theorem test_v48_bit_4_A :
    stepsTo { State.reset with a := 0xEF, f := flags 0x10 } 0x0000 [0xCB, 0x67]
      fun s => { s with f := flags 0x90, pc := 0x0002 } := by decide

/-- V49: `BIT 7,H`. -/
theorem test_v49_bit_7_H :
    stepsTo { State.reset with h := 0x80 } 0xFFFF [0xCB, 0x7C]
      fun s => { s with f := flags 0x30, pc := 0x0001 } := by decide

/-- V50: `JR NZ,-5`. -/
theorem test_v50_jr_NZ :
    stepsTo { State.reset with f := flags 0x00 } 0x000A [0x20, 0xFB]
      fun s => { s with pc := 0x0007 } := by decide

/-- V58: `JR NZ,-128`. -/
theorem test_v58_jr_NZ :
    stepsTo { State.reset with f := flags 0x00 } 0x0000 [0x20, 0x80]
      fun s => { s with pc := 0xFF82 } := by decide

/-- V52: `JR Z,+1`. -/
theorem test_v52_jr_Z :
    stepsTo { State.reset with f := flags 0x80 } 0x0005 [0x28, 0x01]
      fun s => { s with pc := 0x0008 } := by decide

/-- V60: `JR Z,+127`. -/
theorem test_v60_jr_Z :
    stepsTo { State.reset with f := flags 0x80 } 0xFFF0 [0x28, 0x7F]
      fun s => { s with pc := 0x0071 } := by decide

/-- V61: `INC A`. -/
theorem test_v61_inc_A :
    stepsTo { State.reset with a := 0x02, f := flags 0x80 } 0x0000 [0x3C]
      fun s => { s with a := 0x03, pc := 0x0001 } := by decide

/-- V62: `INC B`. -/
theorem test_v62_inc_B :
    stepsTo { State.reset with b := 0xFF, f := flags 0x00 } 0x0000 [0x04]
      fun s => { s with b := 0x00, pc := 0x0001 } := by decide

/-- V63: `INC L`. -/
theorem test_v63_inc_L :
    stepsTo { State.reset with h := 0x12, l := 0xFF } 0x0000 [0x2C]
      fun s => { s with l := 0x00, pc := 0x0001 } := by decide

/-- V64: `DEC B`. -/
theorem test_v64_dec_B :
    stepsTo State.reset 0x0000 [0x05]
      fun s => { s with b := 0xFF, pc := 0x0001 } := by decide

/-- V65: `DEC A`. -/
theorem test_v65_dec_A :
    stepsTo { State.reset with a := 0x01, f := flags 0x00 } 0x0000 [0x3D]
      fun s => { s with a := 0x00, pc := 0x0001 } := by decide

/-- V66: `DEC C`. -/
theorem test_v66_dec_C :
    stepsTo { State.reset with c := 0x10, f := flags 0xF0 } 0x0000 [0x0D]
      fun s => { s with c := 0x0F, pc := 0x0001 } := by decide

/-- V67: `INC DE`. -/
theorem test_v67_inc_DE :
    stepsTo State.reset 0x0000 [0x13]
      fun s => { s with e := 0xD9, pc := 0x0001 } := by decide

/-- V68: `INC BC`. -/
theorem test_v68_inc_BC :
    stepsTo { State.reset with b := 0x00, c := 0xFF } 0x0000 [0x03]
      fun s => { s with b := 0x01, c := 0x00, pc := 0x0001 } := by decide

/-- V69: `INC HL`. -/
theorem test_v69_inc_HL :
    stepsTo { State.reset with h := 0xFF, l := 0xFF } 0x0000 [0x23]
      fun s => { s with h := 0x00, l := 0x00, pc := 0x0001 } := by decide

/-- V70: `INC SP`. -/
theorem test_v70_inc_SP :
    stepsTo State.reset 0x0000 [0x33]
      fun s => { s with sp := 0xFFFF, pc := 0x0001 } := by decide

/-- V71: `INC SP`. -/
theorem test_v71_inc_SP :
    stepsTo { State.reset with sp := 0xFFFF } 0x0000 [0x33]
      fun s => { s with sp := 0x0000, pc := 0x0001 } := by decide

/-- V72: `DEC HL`. -/
theorem test_v72_dec_HL :
    stepsTo State.reset 0x0000 [0x2B]
      fun s => { s with l := 0x4C, pc := 0x0001 } := by decide

/-- V73: `DEC BC`. -/
theorem test_v73_dec_BC :
    stepsTo { State.reset with b := 0x00, c := 0x00 } 0x0000 [0x0B]
      fun s => { s with b := 0xFF, c := 0xFF, pc := 0x0001 } := by decide

/-- V74: `DEC HL`. -/
theorem test_v74_dec_HL :
    stepsTo { State.reset with h := 0x01, l := 0x00 } 0x0000 [0x2B]
      fun s => { s with h := 0x00, l := 0xFF, pc := 0x0001 } := by decide

/-- V75: `DEC SP`. -/
theorem test_v75_dec_SP :
    stepsTo { State.reset with sp := 0x0000 } 0x0000 [0x3B]
      fun s => { s with sp := 0xFFFF, pc := 0x0001 } := by decide

/-- V76: `DEC DE`. -/
theorem test_v76_dec_DE :
    stepsTo { State.reset with d := 0x10, e := 0x00 } 0x0000 [0x1B]
      fun s => { s with d := 0x0F, e := 0xFF, pc := 0x0001 } := by decide

/-- V78: `CALL 1234`. -/
theorem test_v78_call_a16 :
    stepsTo { State.reset with sp := 0xC000 } 0xFFFD [0xCD, 0x34, 0x12]
      fun s => { ((s.write 0xBFFF 0x00).write 0xBFFE 0x00) with sp := 0xBFFE, pc := 0x1234 } := by decide

/-- V79: `CALL 8000`. -/
theorem test_v79_call_a16 :
    stepsTo { State.reset with sp := 0x0001 } 0x0150 [0xCD, 0x00, 0x80]
      fun s => { ((s.write 0x0000 0x01).write 0xFFFF 0x53) with sp := 0xFFFF, pc := 0x8000 } := by decide

/-- V80: `RET`. -/
theorem test_v80_ret :
    stepsTo ((({ State.reset with sp := 0xCFFE }).write 0xCFFE 0x09).write 0xCFFF 0x00) 0x0011 [0xC9]
      fun s => { s with sp := 0xD000, pc := 0x0009 } := by decide

/-- V81: `RET`. -/
theorem test_v81_ret :
    stepsTo ((({ State.reset with sp := 0xFFFF }).write 0xFFFF 0x34).write 0x0000 0x12) 0x0300 [0xC9]
      fun s => { s with sp := 0x0001, pc := 0x1234 } := by decide

/-- V82: `PUSH BC`. -/
theorem test_v82_push_BC :
    stepsTo { State.reset with b := 0x12, c := 0x34, sp := 0xCFFE } 0x0000 [0xC5]
      fun s => { ((s.write 0xCFFD 0x12).write 0xCFFC 0x34) with sp := 0xCFFC, pc := 0x0001 } := by decide

/-- V83: `PUSH DE`. -/
theorem test_v83_push_DE :
    stepsTo { State.reset with sp := 0xC000 } 0x0000 [0xD5]
      fun s => { ((s.write 0xBFFF 0x00).write 0xBFFE 0xD8) with sp := 0xBFFE, pc := 0x0001 } := by decide

/-- V84: `PUSH HL`. -/
theorem test_v84_push_HL :
    stepsTo { State.reset with h := 0xBF, l := 0xFF, sp := 0xC000 } 0x0000 [0xE5]
      fun s => { ((s.write 0xBFFF 0xBF).write 0xBFFE 0xFF) with sp := 0xBFFE, pc := 0x0001 } := by decide

/-- V85: `PUSH AF`. -/
theorem test_v85_push_AF :
    stepsTo { State.reset with sp := 0xC000 } 0x0000 [0xF5]
      fun s => { ((s.write 0xBFFF 0x01).write 0xBFFE 0xB0) with sp := 0xBFFE, pc := 0x0001 } := by decide

/-- V86: `PUSH AF`. -/
theorem test_v86_push_AF :
    stepsTo { State.reset with a := 0x12, f := flags 0xF0, sp := 0xC000 } 0x0000 [0xF5]
      fun s => { ((s.write 0xBFFF 0x12).write 0xBFFE 0xF0) with sp := 0xBFFE, pc := 0x0001 } := by decide

/-- V87: `PUSH BC`. -/
theorem test_v87_push_BC :
    stepsTo { State.reset with b := 0xAB, c := 0xCD, sp := 0x0001 } 0x0100 [0xC5]
      fun s => { ((s.write 0x0000 0xAB).write 0xFFFF 0xCD) with sp := 0xFFFF, pc := 0x0101 } := by decide

/-- V88: `POP BC`. -/
theorem test_v88_pop_BC :
    stepsTo ((({ State.reset with sp := 0xCFFC }).write 0xCFFC 0x34).write 0xCFFD 0x12) 0x0000 [0xC1]
      fun s => { s with b := 0x12, c := 0x34, sp := 0xCFFE, pc := 0x0001 } := by decide

/-- V89: `POP AF`. -/
theorem test_v89_pop_AF :
    stepsTo ((({ State.reset with sp := 0xBFFE }).write 0xBFFE 0xFF).write 0xBFFF 0x12) 0x0000 [0xF1]
      fun s => { s with a := 0x12, f := flags 0xF0, sp := 0xC000, pc := 0x0001 } := by decide

/-- V90: `POP AF`. -/
theorem test_v90_pop_AF :
    stepsTo ((({ State.reset with sp := 0xBFFE }).write 0xBFFE 0x0F).write 0xBFFF 0x00) 0x0000 [0xF1]
      fun s => { s with a := 0x00, f := flags 0x00, sp := 0xC000, pc := 0x0001 } := by decide

/-- V91: `POP HL`. -/
theorem test_v91_pop_HL :
    stepsTo ((({ State.reset with sp := 0xFFFF }).write 0xFFFF 0xCD).write 0x0000 0xAB) 0x0100 [0xE1]
      fun s => { s with h := 0xAB, l := 0xCD, sp := 0x0001, pc := 0x0101 } := by decide

/-- V92: `POP DE`. -/
theorem test_v92_pop_DE :
    stepsTo { State.reset with sp := 0xC000 } 0x0000 [0xD1]
      fun s => { s with d := 0x00, e := 0x00, sp := 0xC002, pc := 0x0001 } := by decide

/-- V93: `RL B`. -/
theorem test_v93_rl_B :
    stepsTo { State.reset with b := 0x80, f := flags 0x00 } 0x0000 [0xCB, 0x10]
      fun s => { s with b := 0x00, f := flags 0x90, pc := 0x0002 } := by decide

/-- V94: `RL B`. -/
theorem test_v94_rl_B :
    stepsTo { State.reset with b := 0x00, f := flags 0x90 } 0x0000 [0xCB, 0x10]
      fun s => { s with b := 0x01, f := flags 0x00, pc := 0x0002 } := by decide

/-- V95: `RL C`. -/
theorem test_v95_rl_C :
    stepsTo { State.reset with c := 0x80, f := flags 0x90 } 0x000A [0xCB, 0x11]
      fun s => { s with c := 0x01, f := flags 0x10, pc := 0x000C } := by decide

/-- V96: `RL A`. -/
theorem test_v96_rl_A :
    stepsTo { State.reset with a := 0xFF, f := flags 0x10 } 0x0000 [0xCB, 0x17]
      fun s => { s with a := 0xFF, f := flags 0x10, pc := 0x0002 } := by decide

/-- V97: `RL A`. -/
theorem test_v97_rl_A :
    stepsTo { State.reset with a := 0x55, f := flags 0x60 } 0x0000 [0xCB, 0x17]
      fun s => { s with a := 0xAA, f := flags 0x60, pc := 0x0002 } := by decide

/-- V98: `RL L`. -/
theorem test_v98_rl_L :
    stepsTo { State.reset with l := 0x40, f := flags 0xF0 } 0x0000 [0xCB, 0x15]
      fun s => { s with l := 0x81, f := flags 0x60, pc := 0x0002 } := by decide

/-- V99: `RL H`. -/
theorem test_v99_rl_H :
    stepsTo { State.reset with h := 0x00, f := flags 0x00 } 0x0000 [0xCB, 0x14]
      fun s => { s with h := 0x00, f := flags 0x80, pc := 0x0002 } := by decide

/-- V101: `CP 03`. -/
theorem test_v101_cp_d8 :
    stepsTo { State.reset with a := 0x02, f := flags 0x80 } 0x0000 [0xFE, 0x03]
      fun s => { s with f := flags 0x00, pc := 0x0002 } := by decide

/-- V103: `CP 00`. -/
theorem test_v103_cp_d8 :
    stepsTo { State.reset with a := 0x00, f := flags 0x70 } 0x0000 [0xFE, 0x00]
      fun s => { s with f := flags 0xF0, pc := 0x0002 } := by decide

/-- V105: `ADD A,B`. -/
theorem test_v105_add_A_B :
    stepsTo { State.reset with a := 0x3A, b := 0xC6, f := flags 0x00 } 0x0000 [0x80]
      fun s => { s with a := 0x00, f := flags 0xB0, pc := 0x0001 } := by decide

/-- V106: `ADD A,B`. -/
theorem test_v106_add_A_B :
    stepsTo { State.reset with a := 0x80, b := 0x80, f := flags 0x00 } 0x0000 [0x80]
      fun s => { s with a := 0x00, f := flags 0x90, pc := 0x0001 } := by decide

/-- V107: `ADD A,A`. -/
theorem test_v107_add_A_A :
    stepsTo State.reset 0x0000 [0x87]
      fun s => { s with a := 0x02, f := flags 0x00, pc := 0x0001 } := by decide

/-- V108: `ADD A,C`. -/
theorem test_v108_add_A_C :
    stepsTo { State.reset with a := 0x0F, c := 0x01, f := flags 0xF0 } 0x0000 [0x81]
      fun s => { s with a := 0x10, f := flags 0x20, pc := 0x0001 } := by decide

/-- V109: `ADD A,D`. -/
theorem test_v109_add_A_D :
    stepsTo { State.reset with a := 0xFF, d := 0x01, f := flags 0x00 } 0x0000 [0x82]
      fun s => { s with a := 0x00, f := flags 0xB0, pc := 0x0001 } := by decide

/-- V110: `ADD A,E`. -/
theorem test_v110_add_A_E :
    stepsTo { State.reset with a := 0x00, e := 0x00, f := flags 0x70 } 0x0000 [0x83]
      fun s => { s with a := 0x00, f := flags 0x80, pc := 0x0001 } := by decide

/-- V111: `ADD A,H`. -/
theorem test_v111_add_A_H :
    stepsTo { State.reset with a := 0x7F, h := 0x01, f := flags 0x00 } 0x0000 [0x84]
      fun s => { s with a := 0x80, f := flags 0x20, pc := 0x0001 } := by decide

/-- V112: `ADD A,L`. -/
theorem test_v112_add_A_L :
    stepsTo { State.reset with a := 0x12, l := 0x34, f := flags 0xF0 } 0x0000 [0x85]
      fun s => { s with a := 0x46, f := flags 0x00, pc := 0x0001 } := by decide

/-- V113: `ADD A,A`. -/
theorem test_v113_add_A_A :
    stepsTo { State.reset with a := 0x88, f := flags 0x00 } 0x0000 [0x87]
      fun s => { s with a := 0x10, f := flags 0x30, pc := 0x0001 } := by decide


/-! ## The fault -/

/-- V115 to V118, V122, V123: unmapped plain bytes. -/
theorem test_fault_plain :
    stepsToFault 0x0000 [0xD3] 0xD3 false ∧ stepsToFault 0x1234 [0x76] 0x76 false ∧
      stepsToFault 0x0000 [0x18, 0xFE] 0x18 false ∧ stepsToFault 0x0000 [0x17] 0x17 false ∧
      stepsToFault 0x0000 [0xF0] 0xF0 false ∧ stepsToFault 0x0000 [0x34] 0x34 false := by decide

/-- V119, V120, V121, V124: unmapped prefixed bytes, the address is that of the escape byte. -/
theorem test_fault_prefixed :
    stepsToFault 0x000A [0xCB, 0x37] 0x37 true ∧ stepsToFault 0x0000 [0xCB, 0xCB] 0xCB true ∧
      stepsToFault 0x0000 [0xCB, 0x46] 0x46 true ∧ stepsToFault 0xFFFF [0xCB, 0x00] 0x00 true := by decide

/-- The loads of the imitated processor that this core does not have (R90). -/
theorem test_fault_absent_loads :
    ([0x2A, 0x3A, 0xF2, 0xF0, 0xFA, 0x08, 0xF8, 0x76].all fun op => decodeEntry op false == none) = true := by decide

/-! ## The escape byte's own row -/

/-- E5 through the row of the escape byte: BIT 7,H with H = 80 clears Z. -/
theorem test_escape_runs_bit :
    (nextOf (exec .escape (place { State.reset with h := 0x80 } 0x0000 [0xCB, 0x7C]))).map (fun t => (t.f, t.pc))
      = some (flags 0x30, 0x0002) := by decide

theorem test_escape_faults :
    faultOf (exec .escape (place State.reset 0x0000 [0xCB, 0xCB])) = some (.unimplementedOpcode 0x0000 0xCB true) := by
  decide

/-! ## The register file, the boot-image load, the host's placing of a word -/

/-- E1: `set_8(F,0x0F)`, and the further values the example gives. -/
theorem test_e1_f_mask :
    (State.reset.set8 .f 0x0F).get8 .f = 0x00 ∧ (State.reset.set8 .f 0xFF).get8 .f = 0xF0 ∧
      (State.reset.set8 .f 0xA5).get8 .f = 0xA0 := by decide

/-- E2: `set_16(AF,0x1234)` and `set_16(BC,0x1234)`. -/
theorem test_e2_pairs :
    (State.reset.set16 .af 0x1234).get16 .af = 0x1230 ∧ (State.reset.set16 .af 0x1234).a = 0x12 ∧
      (State.reset.set16 .bc 0x1234).b = 0x12 ∧ (State.reset.set16 .bc 0x1234).c = 0x34 := by decide

/-- E8: the image 31 FE FF, and the empty image. -/
theorem test_e8_boot :
    nextOf (loadBootImage [0x31, 0xFE, 0xFF] State.reset)
      = some { State.reset with mem := [(0x0000, 0x31), (0x0001, 0xFE), (0x0002, 0xFF)] } ∧
    nextOf (loadBootImage [] State.reset) = some State.reset := by decide

/-- A stored zero is no listed cell, and the list stays sorted. -/
theorem test_memory_is_canonical :
    ((State.reset.write 0x0002 0x07).write 0x0001 0x05).mem = [(0x0001, 0x05), (0x0002, 0x07)] ∧
      (((State.reset.write 0x0002 0x07).write 0x0001 0x05).write 0x0002 0x00).mem = [(0x0001, 0x05)] := by decide

theorem test_memory_refuses_noncanonical :
    Memory.wf [(0x0002, 0x07), (0x0001, 0x05)] = false ∧ Memory.wf [(0x0001, 0x00)] = false ∧
      Memory.wf [(65536, 0x01)] = false := by decide

theorem test_table_word : decodeTableWord 24 0x000031 = some .ld_SP_d16 ∧ decodeTableWord 16 0x7CCB = some .bit_7_H := by
  decide

theorem test_fetch_word :
    nextOf (step (State.reset.withFetchWord 24 0xFFFE31)) = some { State.reset.withFetchWord 24 0xFFFE31 with pc := 0x0003 }
      := by decide

/-! ## Witnesses: each statement's hypotheses are met, at the edges of their ranges -/

/-- A state whose memory lists cells, a store to C000 at PC. -/
def storing : State := place { State.reset with h := 0xC0, l := 0x00, a := 0x5A } 0x0000 [0x77]

/-- A state at the top of memory with an instruction that wraps and a stack that wraps. -/
def wrapping : State := place { State.reset with sp := 0x0001, b := 0xAB, c := 0xCD } 0xFFFF [0xCD, 0x34, 0x12]

theorem witness_inv_holds : storing.Inv ∧ wrapping.Inv := by decide

theorem witness_EveryStepKeepsInvariant :
    storing.Inv ∧ step storing = .next ({ storing with pc := 0x0001 }.write 0xC000 0x5A) := ⟨by decide, rfl⟩

theorem witness_CanonicalMemoryIsItsReads :
    storing.Inv ∧ { storing with a := 0x00 }.Inv ∧ ∀ a : Word, { storing with a := 0x00 }.read a = storing.read a :=
  ⟨by decide, by decide, fun _ => rfl⟩

theorem witness_BootImageLoadCopiesOrRejects_fits :
    storing.Inv ∧ (List.replicate 65536 (0x01 : Byte)).length ≤ 65536 :=
  ⟨by decide, by rw [List.length_replicate]⟩

theorem witness_BootImageLoadCopiesOrRejects_rest :
    2 < [(0x31 : Byte), 0xFE, 0xFF].length ∧ [(0x31 : Byte), 0xFE, 0xFF].length ≤ (0x0003 : Word).toNat := by decide

theorem witness_BootImageLoadCopiesOrRejects_too_long :
    65536 < (List.replicate 65537 (0x01 : Byte)).length := by
  rw [List.length_replicate]; decide

theorem witness_StepFetchesDecodesExecutes_plain :
    let s := place State.reset 0xFFFF [0x00]
    let u := place State.reset 0x0000 [0xFF]
    s.read s.pc ≠ 0xCB ∧ decodeEntry (s.read s.pc) false = some .nop ∧
      u.read u.pc ≠ 0xCB ∧ decodeEntry (u.read u.pc) false = none := by decide

theorem witness_StepFetchesDecodesExecutes_prefixed :
    let s := place State.reset 0xFFFF [0xCB, 0x7F]
    let u := place State.reset 0xFFFF [0xCB, 0x00]
    s.read s.pc = 0xCB ∧ decodeEntry (s.read (s.pc + 1)) true = some .bit_7_A ∧
      u.read u.pc = 0xCB ∧ decodeEntry (u.read (u.pc + 1)) true = none := by decide

theorem witness_StepRunsTheDecodedInstruction :
    decode [wrapping.read wrapping.pc, wrapping.read (wrapping.pc + 1), wrapping.read (wrapping.pc + 2)]
      = .ok .call_a16 := rfl

theorem witness_DecodeOfEncodeIsTheInstruction :
    Instr.cp_d8.wf = true ∧ (Instr.cp_d8 = .escape → [(0xFF : Byte)] = []) ∧ Instr.escape.wf = true ∧
      (Instr.escape = .escape → ([] : List Byte) = []) ∧ (Instr.unmapped 0xFF false).wf = true ∧
      (Instr.unmapped 0x00 true).wf = true := by decide

theorem witness_DecodedInstructionEncodesBack :
    decode [0xCB] = .ok .escape ∧ decode [0xCB, 0x10, 0xFF] = .ok .rl_B ∧
      decode [0xCB, 0xCB] = .ok (.unmapped 0xCB true) ∧ decode [0xFF] = .ok (.unmapped 0xFF false) := ⟨rfl, rfl, rfl, rfl⟩

theorem witness_EncodedInstructionAtPcIsExecuted :
    let s := place State.reset 0xFFFF [0xCB, 0x7C]
    Instr.bit_7_H.wf = true ∧ Instr.bit_7_H ≠ .escape ∧
      ∀ (k : Nat) (h : k < (encode .bit_7_H).length), s.read (s.pc + BitVec.ofNat 16 k) = (encode .bit_7_H)[k] := by
  decide

theorem witness_UnmappedEncodingRaisesTheFault_plain :
    let s := place State.reset 0xFFFF [0x07]
    s.read s.pc ≠ 0xCB ∧ isUnmapped (s.read s.pc) false = true ∧
      faultOf (step s) = some (.unimplementedOpcode 0xFFFF 0x07 false) := by decide

theorem witness_UnmappedEncodingRaisesTheFault_prefixed :
    let s := place State.reset 0xFFFF [0xCB, 0xCB]
    s.read s.pc = 0xCB ∧ isUnmapped (s.read (s.pc + 1)) true = true ∧
      faultOf (step s) = some (.unimplementedOpcode 0xFFFF 0xCB true) := by decide

theorem witness_OnlyUnmappedEncodingsStop :
    Instr.nop ≠ .escape ∧ ∀ (op : Byte) (prefixed : Bool), Instr.nop ≠ .unmapped op prefixed :=
  ⟨by decide, fun _ _ => by simp⟩

theorem witness_EscapeByteRunsThePrefixedOpcode :
    let s := place State.reset 0xFFFF [0xCB, 0x10]
    let u := place State.reset 0xFFFF [0xCB, 0xFF]
    decodeEntry (s.read (s.pc + 1)) true = some .rl_B ∧ decodeEntry (u.read (u.pc + 1)) true = none ∧
      s.read s.pc = 0xCB := by decide

theorem witness_GeneralRegistersHoldWhatIsWritten : Reg8.f ≠ Gpr.a.sel ∧ Reg8.l ≠ Gpr.h.sel := by decide

theorem witness_WriteSetsItsCellsOnly :
    storing.Inv ∧ (0x0000 : Word) ≠ 0xFFFE ∧ (0x0001 : Word) ≠ 0xFFFF ∧ (0x0001 : Word) ≠ 0xFFFF + 1 := by decide

theorem witness_RewritingACellIsNoChange : wrapping.Inv ∧ (wrapping.write 0xFFFF 0x00).Inv := by decide

theorem witness_StoredByteIsTheNextFetched :
    let s := place { State.reset with h := 0x00, l := 0x00, a := 0x3C } 0xFFFF [0x77]
    s.Inv ∧ s.read s.pc = 0x77 ∧ s.get16 .hl = s.pc + 1 ∧ s.reg .a ≠ 0xCB := by decide

theorem witness_LoadPairImmediate : PairSp.bc ≠ .sp ∧ PairSp.de ≠ .sp ∧ PairSp.hl ≠ .sp := by decide

theorem witness_IncDecPairWritesNoFlag : PairSp.hl ≠ .sp := by decide

/-- The premise under which a stored byte is read back, for the stores, the pushes and the call. -/
theorem witness_stored_byte_is_read_back :
    storing.Inv ∧ { storing with h := 0xFF, l := 0xFF, c := 0xFF }.Inv ∧ { wrapping with sp := 0x0000 }.Inv := by decide

theorem witness_StackPrimitives : wrapping.Inv ∧ (wrapping.push16 0xABCD).sp = 0xFFFF := by decide

theorem witness_ReturnAfterCallContinuesAfterIt :
    wrapping.Inv ∧ (nextOf (step wrapping)).map State.pc = some 0x1234 := by decide

theorem witness_PushStoresThePair : wrapping.Inv ∧ PairAf.af = .af := by decide

theorem witness_PopLoadsThePair : PairAf.bc ≠ .af ∧ PairAf.af = .af := by decide

theorem witness_PopAfterPushRestoresOrCopies :
    wrapping.Inv ∧ PairAf.af = .af ∧ PairAf.de ≠ .af := by decide

theorem witness_OnlyTheListedInstructionsWriteFlags :
    Instr.rl_B ≠ .escape ∧ exec .rl_B storing = .next { storing with b := 0x01, f := flags 0x20, pc := 0x0002 } ∧
      (writesFlags .rl_B).n = false ∧ (writesFlags .rl_B).h = false ∧ (writesFlags .nop).z = false ∧
      (writesFlags .nop).c = false := ⟨by decide, rfl, rfl, rfl, rfl, rfl⟩

theorem witness_OnlyTheListedInstructionsWriteSp :
    Instr.ld_A_H ≠ .escape ∧ writesSp .ld_A_H = false ∧
      exec .ld_A_H storing = .next { storing with a := 0xC0, pc := 0x0001 } := ⟨by decide, rfl, rfl⟩

theorem witness_OnlyTheListedInstructionsWriteMemory :
    writesMemory .pop_BC = false ∧
      exec .pop_BC storing = .next { storing with b := 0x00, c := 0x00, sp := 0x0000, pc := 0x0001 } := ⟨rfl, rfl⟩

theorem witness_SequentialPcAdvance :
    Instr.jr_NZ.format.lengthAfterOpaddr = some 2 ∧ transfersControl .jr_NZ storing.f = false ∧
      exec .jr_NZ storing = .next { storing with pc := 0x0002 } := ⟨rfl, rfl, rfl⟩

theorem witness_SequentialPcAdvance_prefixed :
    Instr.bit_7_H.format.lengthAfterOpaddr = some 1 ∧ Instr.bit_7_H.isPrefixed = true ∧
      transfersControl .bit_7_H storing.f = false ∧
      exec .bit_7_H storing = .next { storing with f := flags 0x30, pc := 0x0002 } := ⟨rfl, rfl, rfl, rfl⟩

end Sys2Proof.Tests
end

/-!
PROOFS. The state (spec/10_state.md): the register selectors, the flags byte, the pairs and the reset
table. The statements settled here are O17, O18, O19, O20 and O1.
-/
namespace Sys2Proof.Machine

/-! The 8-bit selectors (R11). -/

namespace State

/-- No two selectors share storage. -/
theorem get8_set8_of_ne (s : State) {q r : Reg8} (h : q ≠ r) (v : Byte) : (s.set8 r v).get8 q = s.get8 q := by
  cases r <;> cases q <;> simp [get8, set8] at h ⊢

/-- F is no general register (R23). -/
theorem reg_set8_f (s : State) (r : Gpr) (v : Byte) : (s.set8 .f v).reg r = s.reg r :=
  s.get8_set8_of_ne (by cases r <;> decide) v

end State

/-- Settles O17: the written register reads back, and no two selectors share storage. -/
theorem generalRegistersHoldWhatIsWritten : Obligations.GeneralRegistersHoldWhatIsWritten := by
  intro s r v
  exact ⟨s.setReg_reg_same v r, fun q hq => s.get8_set8_of_ne hq v, s.setReg_f v r, s.setReg_sp v r,
    s.setReg_pc v r, fun a => s.setReg_read v a r⟩

/-! The flags byte (R12). -/

theorem Flags.toByte_toNat (f : Flags) :
    f.toByte.toNat = 128 * f.z.toNat + 64 * f.n.toNat + 32 * f.h.toNat + 16 * f.c.toNat := by
  rcases f with ⟨_ | _, _ | _, _ | _, _ | _⟩ <;> rfl

/-- What a write to F leaves of a byte: its bits 7..4. -/
theorem Flags.toByte_ofByte (v : Byte) : (Flags.ofByte v).toByte = v &&& 0xF0 := by
  apply BitVec.eq_of_getLsbD_eq
  intro i hi
  simp only [toByte, ofByte, BitVec.getLsbD_append, BitVec.getLsbD_and]
  interval_cases i <;> simp

/-- Settles O18: the byte of F is the four flags, and a write to it is masked by 0xF0. -/
theorem flagsRegisterIsFourBits : Obligations.FlagsRegisterIsFourBits := by
  intro s v
  have masked (u : Byte) : (s.set8 .f u).get8 .f = u &&& 0xF0 := Flags.toByte_ofByte u
  exact ⟨s.f.toByte_toNat, rfl, masked v, fun r => s.reg_set8_f r v, masked 0x0F⟩

/-! The pairs (R13, R14). -/

/-- Settles O19: the pairs are two bytes joined, and a write to a pair writes its halves. -/
theorem pairsAreHighByteFirst : Obligations.PairsAreHighByteFirst := by
  intro s v
  have hi := hiByte_toNat v
  have lo := loByte_toNat v
  refine ⟨⟨joinBytes_toNat s.b s.c, joinBytes_toNat s.d s.e, joinBytes_toNat s.h s.l⟩, ⟨hi, lo, hi, lo, hi, lo⟩,
    ⟨?_, ?_, ?_⟩, rfl, rfl, rfl⟩
  · exact s.get16_set16_pairSp .bc v
  · exact s.get16_set16_pairSp .de v
  · exact s.get16_set16_pairSp .hl v

/-- A bitwise and acts on each half of a pair. -/
theorem joinBytes_and (a b c d : Byte) : joinBytes (a &&& b) (c &&& d) = joinBytes a c &&& joinBytes b d :=
  BitVec.and_append.symm

theorem Flags.ofByte_loByte (v : Word) :
    Flags.ofByte (loByte v) = ⟨v.getLsbD 7, v.getLsbD 6, v.getLsbD 5, v.getLsbD 4⟩ := by
  simp only [ofByte, loByte_getLsbD, Nat.reduceLT]

/-- AF reads back what was written without bits 3..0. -/
theorem State.get16_set16_af (s : State) (v : Word) : (s.set16 .af v).get16 .af = v &&& 0xFFF0 :=
  calc (s.set16 .af v).get16 .af
      = joinBytes (hiByte v) (Flags.ofByte (loByte v)).toByte := rfl
    _ = joinBytes (hiByte v &&& 0xFF) (loByte v &&& 0xF0) := by
        rw [Flags.toByte_ofByte, show (0xFF : Byte) = BitVec.allOnes 8 from rfl, BitVec.and_allOnes]
    _ = v &&& 0xFFF0 := by rw [joinBytes_and, joinBytes_hiByte_loByte]; rfl

/-- Settles O20: AF is A joined with the byte of F, whose low nibble a write drops. -/
theorem pairAfDropsTheLowNibble : Obligations.PairAfDropsTheLowNibble := by
  intro s v
  exact ⟨joinBytes_toNat s.a s.f.toByte, hiByte_toNat v, Flags.ofByte_loByte v, rfl, s.get16_set16_af v,
    s.get16_set16_af 0x1234⟩

/-! The reset table (R24). -/

@[simp] theorem State.reset_read (a : Word) : State.reset.read a = 0x00 := rfl

/-- Settles O1: the fixed values are computed, and reset memory lists no cell. -/
theorem resetStateHoldsSpecValues : Obligations.ResetStateHoldsSpecValues :=
  ⟨rfl, rfl, rfl, rfl, rfl, rfl, rfl, rfl, rfl, rfl, rfl, rfl, rfl, rfl, rfl, State.reset_read⟩

end Sys2Proof.Machine

/-!
PROOFS. Memory accesses (spec/20_memory.md): the two-byte read, the byte write and the two-byte write.
The statements settled here are O21 and O22.
-/
namespace Sys2Proof.Machine

/-! The two-byte read (R32). -/

/-- The next address, modulo 65536. -/
theorem word_succ_eq_ofNat (a : Word) : a + 1 = BitVec.ofNat 16 ((a.toNat + 1) % 65536) :=
  BitVec.eq_of_toNat_eq (by simp [BitVec.toNat_add])

/-- Settles O21: the two bytes read are joined with the byte of the next address on top. -/
theorem wordReadIsLittleEndian : Obligations.WordReadIsLittleEndian := by
  intro s a
  rw [← word_succ_eq_ofNat]
  exact joinBytes_toNat (s.read (a + 1)) (s.read a)

/-! The two-byte write (R33): the rules for the two cells it writes, and for the others. -/

theorem word_ne_succ (a : Word) : a ≠ a + 1 := by bv_omega

namespace State

/-- The low byte written lies at the address; the write of the high byte does not reach it. -/
theorem read_writeWord_lo {s : State} (h : s.Inv) (a w : Word) : (s.writeWord a w).read a = loByte w :=
  (read_write_of_ne _ _ (word_ne_succ a)).trans (read_write_same h a _)

/-- The high byte written lies at the next address. -/
theorem read_writeWord_hi {s : State} (h : s.Inv) (a w : Word) : (s.writeWord a w).read (a + 1) = hiByte w :=
  read_write_same (wf_write h a _) (a + 1) _

/-- A two-byte write changes no other cell. -/
theorem read_writeWord_of_ne (s : State) {a b : Word} (w : Word) (h₁ : b ≠ a) (h₂ : b ≠ a + 1) :
    (s.writeWord a w).read b = s.read b :=
  (read_write_of_ne _ _ h₂).trans (read_write_of_ne s _ h₁)

/-- A two-byte write is read back. -/
theorem readWord_writeWord_same {s : State} (h : s.Inv) (a w : Word) : (s.writeWord a w).readWord a = w := by
  rw [readWord, read_writeWord_hi h, read_writeWord_lo h, joinBytes_hiByte_loByte]

end State

/-- Settles O22: each write is seen at its own cells and nowhere else, and both replace the memory alone. -/
theorem writeSetsItsCellsOnly : Obligations.WriteSetsItsCellsOnly := by
  intro s a v w h
  refine ⟨⟨State.read_write_same h a v, fun b hb => s.read_write_of_ne v hb, rfl⟩, ?_, ?_,
    fun b h₁ h₂ => s.read_writeWord_of_ne w h₁ h₂, rfl, State.readWord_writeWord_same h a w⟩
  · rw [State.read_writeWord_lo h, loByte_toNat]
  · rw [State.read_writeWord_hi h, hiByte_toNat]

end Sys2Proof.Machine

/-!
PROOFS. Fetch, decode and the opcode tables (spec/30_encoding.md): the instruction a table entry stands
for, the two lookups of a step, and where each family of instructions stands in the tables. The
statements settled here are O6 and O12.
-/
namespace Sys2Proof

/-! The table lookup (R52). -/

theorem decodeOpcode_of_some {op : Byte} {prefixed : Bool} {i : Instr} (h : decodeEntry op prefixed = some i) :
    decodeOpcode op prefixed = i := by
  rw [decodeOpcode, h, Option.getD_some]

theorem decodeOpcode_of_none {op : Byte} {prefixed : Bool} (h : decodeEntry op prefixed = none) :
    decodeOpcode op prefixed = .unmapped op prefixed := by
  rw [decodeOpcode, h, Option.getD_none]

/-! The place of each family in the tables (R53). -/

theorem decodeEntry_ldRegReg (r r' : Gpr) :
    decodeEntry (0b01#2 ++ r.code ++ r'.code) false = some (ldRegReg r r') := by
  cases r <;> cases r' <;> rfl

theorem decodeEntry_ldRegImm (r : Gpr) : decodeEntry (0b00#2 ++ r.code ++ 0b110#3) false = some (ldRegImm r) := by
  cases r <;> rfl

theorem decodeEntry_ldRegAtHl (r : Gpr) : decodeEntry (0b01#2 ++ r.code ++ 0b110#3) false = some (ldRegAtHl r) := by
  cases r <;> rfl

theorem decodeEntry_ldAtHlReg (r : Gpr) : decodeEntry (0b01110#5 ++ r.code) false = some (ldAtHlReg r) := by
  cases r <;> rfl

theorem decodeEntry_addReg (r : Gpr) : decodeEntry (0b10000#5 ++ r.code) false = some (addReg r) := by
  cases r <;> rfl

theorem decodeEntry_xorReg (r : Gpr) : decodeEntry (0b10101#5 ++ r.code) false = some (xorReg r) := by
  cases r <;> rfl

theorem decodeEntry_incReg (r : Gpr) : decodeEntry (0b00#2 ++ r.code ++ 0b100#3) false = some (incReg r) := by
  cases r <;> rfl

theorem decodeEntry_decReg (r : Gpr) : decodeEntry (0b00#2 ++ r.code ++ 0b101#3) false = some (decReg r) := by
  cases r <;> rfl

theorem decodeEntry_rlReg (r : Gpr) : decodeEntry (0b00010#5 ++ r.code) true = some (rlReg r) := by
  cases r <;> rfl

theorem decodeEntry_bitReg (n : Fin 8) (r : Gpr) :
    decodeEntry (0b01#2 ++ BitVec.ofFin (w := 3) n ++ r.code) true = some (bitReg n r) := by
  fin_cases n <;> cases r <;> rfl

theorem decodeEntry_ldPairImm (rr : PairSp) :
    decodeEntry (0b00#2 ++ rr.code ++ 0b0001#4) false = some (ldPairImm rr) := by
  cases rr <;> rfl

theorem decodeEntry_incPair (rr : PairSp) : decodeEntry (0b00#2 ++ rr.code ++ 0b0011#4) false = some (incPair rr) := by
  cases rr <;> rfl

theorem decodeEntry_decPair (rr : PairSp) : decodeEntry (0b00#2 ++ rr.code ++ 0b1011#4) false = some (decPair rr) := by
  cases rr <;> rfl

theorem decodeEntry_pushPair (rr : PairAf) :
    decodeEntry (0b11#2 ++ rr.code ++ 0b0101#4) false = some (pushPair rr) := by
  cases rr <;> rfl

theorem decodeEntry_popPair (rr : PairAf) : decodeEntry (0b11#2 ++ rr.code ++ 0b0001#4) false = some (popPair rr) := by
  cases rr <;> rfl

theorem decodeEntry_jrCond (cc : Cond) : decodeEntry (0b001#3 ++ cc.code ++ 0b000#3) false = some (jrCond cc) := by
  cases cc <;> rfl

/-- Settles O12: the codes and the bytes without a field are computed, and each family stands where its
pattern says. -/
theorem opcodesFollowTheFieldPatterns : Obligations.OpcodesFollowTheFieldPatterns := by
  refine ⟨rfl, rfl, rfl, rfl, fun r r' => ?_, fun rr => ?_, fun rr => ?_, decodeEntry_jrCond, rfl⟩
  · exact ⟨decodeEntry_ldRegReg r r', decodeEntry_ldRegImm r, decodeEntry_ldRegAtHl r, decodeEntry_ldAtHlReg r,
      decodeEntry_addReg r, decodeEntry_xorReg r, decodeEntry_incReg r, decodeEntry_decReg r, decodeEntry_rlReg r,
      fun n => decodeEntry_bitReg n r⟩
  · exact ⟨decodeEntry_ldPairImm rr, decodeEntry_incPair rr, decodeEntry_decPair rr⟩
  · exact ⟨decodeEntry_pushPair rr, decodeEntry_popPair rr⟩

end Sys2Proof

namespace Sys2Proof.Machine

/-! One step (R51). -/

/-- A step at any byte but the escape byte executes that byte's entry of the plain table. -/
theorem step_plain {s : State} (h : s.read s.pc ≠ Config.escapeByte) :
    step s = exec (decodeOpcode (s.read s.pc) false) s :=
  congrArg (exec · s) (Laws.fetch_plain s h)

/-- A step at the escape byte executes the next byte's entry of the prefixed table. -/
theorem step_prefixed {s : State} (h : s.read s.pc = Config.escapeByte) :
    step s = exec (decodeOpcode (s.read (s.pc + 1)) true) s :=
  congrArg (exec · s) (Laws.fetch_prefixed s h)

/-- Executing an opcode byte is executing its table entry, or the fault where there is none. -/
theorem exec_decodeOpcode (s : State) (op : Byte) (prefixed : Bool) :
    (∀ i, decodeEntry op prefixed = some i → exec (decodeOpcode op prefixed) s = exec i s) ∧
      (decodeEntry op prefixed = none →
        exec (decodeOpcode op prefixed) s = .fault (.unimplementedOpcode s.pc op prefixed)) :=
  ⟨fun _ h => by rw [decodeOpcode_of_some h], fun h => by rw [decodeOpcode_of_none h, Laws.exec_unmapped]⟩

/-- Settles O6: the byte at PC selects the table, and the entry found there is executed. -/
theorem stepFetchesDecodesExecutes : Obligations.StepFetchesDecodesExecutes := by
  intro s
  refine ⟨fun plain => ?_, fun escaped => ?_⟩
  · rw [step_plain plain]
    exact exec_decodeOpcode s (s.read s.pc) false
  · rw [step_prefixed escaped]
    exact exec_decodeOpcode s (s.read (s.pc + 1)) true

end Sys2Proof.Machine

/-!
PROOFS. The no-op and the 16-bit loads (spec/40_noop_load16.md): the immediate of two bytes, the frames of
a pair write, and what each load leaves. The statements settled here are O25, O26 and O27.
-/
namespace Sys2Proof.Machine

/-! The immediate of two bytes (R54). -/

theorem State.imm16_toNat (s : State) (o : Word) :
    (s.imm16 o).toNat = 256 * (s.read (o + 2)).toNat + (s.read (o + 1)).toNat := by
  rw [imm16, readWord, add_one_add_one, joinBytes_toNat]

/-! Frames. -/

/-- Where the memory is the same, every byte is. -/
theorem keepsMemoryBut_of_mem_eq {s t : State} (h : t.mem = s.mem) (named : List Word) : KeepsMemoryBut named s t :=
  fun a _ => congrArg (Memory.cell · a.toNat) h

namespace State

/-- Two register writes change no third register. -/
theorem setReg_setReg_keepsRegsBut (s : State) (r r' : Gpr) (v v' : Byte) :
    KeepsRegsBut [r, r'] s ((s.setReg r v).setReg r' v') := by
  intro q hq
  simp only [List.mem_cons, List.not_mem_nil, or_false, not_or] at hq
  obtain ⟨hr, hr'⟩ := hq
  rw [setReg_reg_of_ne _ _ _ hr', setReg_reg_of_ne _ _ _ hr]

/-- A pair write reaches the halves of the pair alone. -/
theorem set16_pairSp_keepsRegsBut (s : State) (p : PairSp) (x : Word) :
    KeepsRegsBut (halvesSp p) s (s.set16 p.sel x) := by
  cases p with
  | bc => exact s.setReg_setReg_keepsRegsBut .b .c _ _
  | de => exact s.setReg_setReg_keepsRegsBut .d .e _ _
  | hl => exact s.setReg_setReg_keepsRegsBut .h .l _ _
  | sp => exact fun q _ => s.setSp_reg x q

end State

/-! What the loads leave (R71, R72), besides the memory, the PC and the flags. -/

section
variable (o : Word) (s : State) (rr : PairSp)

@[simp] theorem loadPairImm_get16 : (loadPairImm rr o s).get16 rr.sel = s.imm16 o := by
  rw [loadPairImm, State.setPc_get16_pairSp, State.get16_set16_pairSp]

theorem loadPairImm_keepsRegsBut : KeepsRegsBut (halvesSp rr) s (loadPairImm rr o s) :=
  fun q hq => (State.setPc_reg _ _ q).trans (s.set16_pairSp_keepsRegsBut rr _ q hq)

variable {rr} in
theorem loadPairImm_sp_of_ne (h : rr ≠ .sp) : (loadPairImm rr o s).sp = s.sp :=
  s.set16_pairSp_sp_of_ne _ h

@[simp] theorem loadSpFromHl_sp : (loadSpFromHl o s).sp = s.get16 .hl := rfl

@[simp] theorem loadSpFromHl_reg (q : Gpr) : (loadSpFromHl o s).reg q = s.reg q := by
  rw [loadSpFromHl, State.set16_sp, State.setPc_reg, State.setSp_reg]

end

/-- Settles O25: the table entry of 0x00 is computed, and the no-op writes PC alone. -/
theorem nopOnlyAdvancesPc : Obligations.NopOnlyAdvancesPc :=
  ⟨rfl, Laws.exec_nop⟩

/-- Settles O26: the immediate is written to the pair, and a pair write reaches its halves alone. -/
theorem loadPairImmediate : Obligations.LoadPairImmediate := by
  refine ⟨decodeEntry_ldPairImm, fun rr s => ⟨_, Laws.exec_ldPairImm s rr, ?_, loadPairImm_keepsRegsBut _ s rr,
    loadPairImm_sp_of_ne _ s, loadPairImm_f _ s rr, loadPairImm_pc _ s rr,
    keepsMemoryBut_of_mem_eq (loadPairImm_mem _ s rr) []⟩⟩
  rw [loadPairImm_get16]
  exact s.imm16_toNat s.pc

/-- Settles O27: SP is written with H and L joined, and no general register is. The statement's own name is
taken by the operation. -/
theorem loadSpFromHl_copiesHlOnly : Obligations.LoadSpFromHl := by
  refine ⟨rfl, fun s => ⟨_, Laws.exec_ld_SP_HL s, ?_, fun q _ => loadSpFromHl_reg _ s q, loadSpFromHl_f _ s,
    loadSpFromHl_pc _ s, keepsMemoryBut_of_mem_eq (loadSpFromHl_mem _ s) []⟩⟩
  rw [loadSpFromHl_sp]
  exact joinBytes_toNat s.h s.l

end Sys2Proof.Machine

/-!
PROOFS. The 8-bit loads (spec/41_load8.md): what a load of one register and a store of one byte leave, each
said once, and the address forms of the stores. The statements settled here are O28 to O36.
-/
namespace Sys2Proof.Machine

/-! The two effects. -/

/-- From `s` to `t` the register `r` takes the value `v`, PC goes to `next`, and nothing else changes. -/
def LoadsOnly (r : Gpr) (v : Byte) (next : Word) (s t : State) : Prop :=
  t.reg r = v ∧ KeepsRegsBut [r] s t ∧ t.f = s.f ∧ t.sp = s.sp ∧ t.pc = next ∧ KeepsMemoryBut [] s t

/-- From `s` to `t` the cell at `a` takes the value `v`, PC goes to `next`, and nothing else changes. The
cell reads back where the memory of `s` is canonical. -/
def StoresOnly (a : Word) (v : Byte) (next : Word) (s t : State) : Prop :=
  (s.Inv → t.read a = v) ∧ KeepsMemoryBut [a] s t ∧ KeepsRegsBut [] s t ∧ t.f = s.f ∧ t.sp = s.sp ∧ t.pc = next

/-! A memory that one write made. -/

section
variable {s t : State} {a : Word} {v : Byte}

theorem read_of_mem_eq_write (h : t.mem = (s.write a v).mem) (inv : s.Inv) : t.read a = v :=
  (congrArg (Memory.cell · a.toNat) h).trans (State.read_write_same inv a v)

theorem keepsMemoryBut_of_mem_eq_write (h : t.mem = (s.write a v).mem) : KeepsMemoryBut [a] s t :=
  fun b hb => (congrArg (Memory.cell · b.toNat) h).trans (s.read_write_of_ne v (List.ne_of_not_mem_cons hb))

end

namespace State

theorem setReg_keepsRegsBut (s : State) (r : Gpr) (v : Byte) : KeepsRegsBut [r] s (s.setReg r v) :=
  fun _ hq => s.setReg_reg_of_ne v r (List.ne_of_not_mem_cons hq)

theorem setReg_setPc_loadsOnly (s : State) (r : Gpr) (v : Byte) (x : Word) :
    LoadsOnly r v x s ((s.setReg r v).setPc x) := by
  refine ⟨?_, fun q hq => ?_, s.setReg_f v r, s.setReg_sp v r, rfl, keepsMemoryBut_of_mem_eq (s.setReg_mem v r) []⟩
  · rw [setPc_reg, setReg_reg_same]
  · rw [setPc_reg, s.setReg_keepsRegsBut r v q hq]

theorem write_setPc_storesOnly (s : State) (a : Word) (v : Byte) (x : Word) :
    StoresOnly a v x s ((s.write a v).setPc x) := by
  refine ⟨read_of_mem_eq_write rfl, keepsMemoryBut_of_mem_eq_write rfl, fun q _ => ?_, rfl, rfl, rfl⟩
  rw [setPc_reg, write_reg]

/-- The two-byte immediate, written out as an address. -/
theorem imm16_eq_ofNat (s : State) (o : Word) :
    s.imm16 o = BitVec.ofNat 16 (256 * (s.read (o + 2)).toNat + (s.read (o + 1)).toNat) := by
  rw [← imm16_toNat, BitVec.ofNat_toNat, BitVec.setWidth_eq]

end State

/-! What the loads leave (R76 to R78, R81, R82). -/

section
variable (o : Word) (s : State) (r : Gpr)

theorem loadRegReg_loadsOnly (r' : Gpr) : LoadsOnly r (s.reg r') (o + 1) s (loadRegReg r r' o s) :=
  s.setReg_setPc_loadsOnly r _ _

theorem loadRegImm_loadsOnly : LoadsOnly r (s.read (o + 1)) (o + 2) s (loadRegImm r o s) :=
  s.setReg_setPc_loadsOnly r _ _

theorem loadRegMem_loadsOnly (p : Reg16) : LoadsOnly r (s.read (s.get16 p)) (o + 1) s (loadRegMem r p o s) :=
  s.setReg_setPc_loadsOnly r _ _

end

/-! What the stores leave (R79, R80, R83 to R89). -/

section
variable (o : Word) (s : State) (r : Gpr)

theorem storeRegMem_storesOnly (p : Reg16) : StoresOnly (s.get16 p) (s.reg r) (o + 1) s (storeRegMem p r o s) :=
  s.write_setPc_storesOnly _ _ _

theorem storeImmHl_storesOnly : StoresOnly (s.get16 .hl) (s.read (o + 1)) (o + 2) s (storeImmHl o s) :=
  s.write_setPc_storesOnly _ _ _

theorem storeAHighC_storesOnly :
    StoresOnly (BitVec.ofNat 16 (0xFF00 + s.c.toNat)) (s.reg .a) (o + 1) s (storeAHighC o s) := by
  rw [← highAddr_eq]
  exact s.write_setPc_storesOnly _ _ _

theorem storeAHighImm_storesOnly :
    StoresOnly (BitVec.ofNat 16 (0xFF00 + (s.read (o + 1)).toNat)) (s.reg .a) (o + 2) s (storeAHighImm o s) := by
  rw [← highAddr_eq]
  exact s.write_setPc_storesOnly _ _ _

theorem storeAAbs_storesOnly :
    StoresOnly (BitVec.ofNat 16 (256 * (s.read (o + 2)).toNat + (s.read (o + 1)).toNat)) (s.reg .a) (o + 3) s
      (storeAAbs o s) := by
  rw [← State.imm16_eq_ofNat]
  exact s.write_setPc_storesOnly _ _ _

variable (delta : Word)

theorem storeAHlStep_get16_hl : (storeAHlStep delta o s).get16 .hl = s.get16 .hl + delta :=
  joinBytes_hiByte_loByte _

theorem storeAHlStep_keepsRegsBut : KeepsRegsBut [.h, .l] s (storeAHlStep delta o s) := by
  intro q hq
  rw [storeAHlStep, State.setPc_reg]
  exact (State.set16_pairSp_keepsRegsBut _ .hl _ q hq).trans (s.write_reg _ _ q)

/-- The store is at the HL of the start state, and HL steps by `delta` modulo 65536. -/
theorem storeAHlStep_storesAndStepsHl :
    (s.Inv → (storeAHlStep delta o s).read (s.get16 .hl) = s.reg .a) ∧
    ((storeAHlStep delta o s).get16 .hl).toNat = ((s.get16 .hl).toNat + delta.toNat) % 65536 ∧
    KeepsMemoryBut [s.get16 .hl] s (storeAHlStep delta o s) ∧ KeepsRegsBut [.h, .l] s (storeAHlStep delta o s) ∧
    (storeAHlStep delta o s).f = s.f ∧ (storeAHlStep delta o s).sp = s.sp ∧
    (storeAHlStep delta o s).pc = o + 1 := by
  have written := storeAHlStep_mem o s delta
  refine ⟨read_of_mem_eq_write written, ?_, keepsMemoryBut_of_mem_eq_write written,
    storeAHlStep_keepsRegsBut o s delta, storeAHlStep_f o s delta, storeAHlStep_sp o s delta,
    storeAHlStep_pc o s delta⟩
  rw [storeAHlStep_get16_hl, BitVec.toNat_add]

end

/-- Settles O28: the value of the source register is written to the target alone. -/
theorem loadRegisterFromRegister : Obligations.LoadRegisterFromRegister :=
  ⟨decodeEntry_ldRegReg, fun r r' s => ⟨_, Laws.exec_ldRegReg s r r', loadRegReg_loadsOnly s.pc s r r'⟩⟩

/-- Settles O29: the byte after the opcode is written to the target alone. -/
theorem loadRegisterImmediate : Obligations.LoadRegisterImmediate :=
  ⟨decodeEntry_ldRegImm, fun r s => ⟨_, Laws.exec_ldRegImm s r, loadRegImm_loadsOnly s.pc s r⟩⟩

/-- Settles O30: the cell at HL is read in the start state, so H and L are targets like the others. -/
theorem loadRegisterFromHl : Obligations.LoadRegisterFromHl :=
  ⟨decodeEntry_ldRegAtHl, fun r s => ⟨_, Laws.exec_ldRegAtHl s r, loadRegMem_loadsOnly s.pc s r .hl⟩⟩

/-- Settles O31: the cell at the pair is written to A alone. -/
theorem loadAFromBcAndDe : Obligations.LoadAFromBcAndDe :=
  ⟨rfl, rfl, fun s => ⟨⟨_, Laws.exec_ld_A_atBC s, loadRegMem_loadsOnly s.pc s .a .bc⟩,
    ⟨_, Laws.exec_ld_A_atDE s, loadRegMem_loadsOnly s.pc s .a .de⟩⟩⟩

/-- Settles O32: the register or the immediate is stored at HL alone. -/
theorem storeAtHl : Obligations.StoreAtHl :=
  ⟨decodeEntry_ldAtHlReg, rfl, fun s => ⟨fun r => ⟨_, Laws.exec_ldAtHlReg s r, storeRegMem_storesOnly s.pc s r .hl⟩,
    ⟨_, Laws.exec_ld_atHL_d8 s, storeImmHl_storesOnly s.pc s⟩⟩⟩

/-- Settles O33: A is stored at the pair alone. -/
theorem storeAAtBcAndDe : Obligations.StoreAAtBcAndDe :=
  ⟨rfl, rfl, fun s => ⟨⟨_, Laws.exec_ld_atBC_A s, storeRegMem_storesOnly s.pc s .a .bc⟩,
    ⟨_, Laws.exec_ld_atDE_A s, storeRegMem_storesOnly s.pc s .a .de⟩⟩⟩

/-- Settles O34: one operation with the step 1 or -1, which is 65535 modulo 65536. -/
theorem storeAAtHlAndStepHl : Obligations.StoreAAtHlAndStepHl :=
  ⟨rfl, rfl, fun s => ⟨⟨_, Laws.exec_ld_atHLinc_A s, storeAHlStep_storesAndStepsHl s.pc s 1⟩,
    ⟨_, Laws.exec_ld_atHLdec_A s, storeAHlStep_storesAndStepsHl s.pc s (-1)⟩⟩⟩

/-- Settles O35: A is stored at 0xFF00 plus the unsigned offset alone. -/
theorem storeAInTheHighPage : Obligations.StoreAInTheHighPage :=
  ⟨rfl, rfl, fun s => ⟨⟨_, Laws.exec_ld_atC_A s, storeAHighC_storesOnly s.pc s⟩,
    ⟨_, Laws.exec_ldh_a8_A s, storeAHighImm_storesOnly s.pc s⟩⟩⟩

/-- Settles O36: A is stored at the two-byte immediate alone. -/
theorem storeAAtAbsoluteAddress : Obligations.StoreAAtAbsoluteAddress :=
  ⟨rfl, fun s => ⟨_, Laws.exec_ld_a16_A s, storeAAbs_storesOnly s.pc s⟩⟩

end Sys2Proof.Machine

/-!
PROOFS. Exclusive-or (spec/42_xor.md): the flags it writes, and what it leaves of the registers. The
statement settled here is O37.
-/
namespace Sys2Proof.Machine

/-! The four flags (R95). -/

section
variable (v : Byte)

theorem xorFlags_z_iff : (xorFlags v).z = true ↔ v = 0 := beq_iff_eq

@[simp] theorem xorFlags_n : (xorFlags v).n = false := rfl
@[simp] theorem xorFlags_h : (xorFlags v).h = false := rfl
@[simp] theorem xorFlags_c : (xorFlags v).c = false := rfl

end

/-! The registers: the result in A, and no other is written. -/

section
variable (o : Word) (s : State) (r : Gpr)

@[simp] theorem xorA_reg_a : (xorA r o s).reg .a = s.reg .a ^^^ s.reg r := by
  rw [xorA, State.setPc_reg, State.setFlags_reg, State.setReg_reg_same]

theorem xorA_keepsRegsBut : KeepsRegsBut [.a] s (xorA r o s) := by
  intro q hq
  rw [xorA, State.setPc_reg, State.setFlags_reg]
  exact s.setReg_keepsRegsBut .a _ q hq

end

/-- Settles O37: A takes the exclusive-or, F is written whole from it, and no other register or byte is
written. -/
theorem xorWritesAAndFlags : Obligations.XorWritesAAndFlags := by
  refine ⟨decodeEntry_xorReg, fun r s => ⟨_, Laws.exec_xorReg s r, xorA_reg_a _ s r, ?_⟩⟩
  rw [xorA_f]
  exact ⟨xorFlags_z_iff _, xorFlags_n _, xorFlags_h _, xorFlags_c _, xorA_keepsRegsBut _ s r, xorA_sp _ s r,
    xorA_pc _ s r, keepsMemoryBut_of_mem_eq (xorA_mem _ s r) []⟩

end Sys2Proof.Machine

/-!
PROOFS. The bit test (spec/43_bit_test.md): the bit as a remainder, the one flag written, and what the test
leaves of the registers. The statement settled here is O38.
-/
namespace Sys2Proof.Machine

/-! The one flag written (R98). -/

section
variable (f : Flags) (z : Bool)

@[simp] theorem Flags.withZ_z : (f.withZ z).z = z := rfl
@[simp] theorem Flags.withZ_n : (f.withZ z).n = f.n := rfl
@[simp] theorem Flags.withZ_h : (f.withZ z).h = f.h := rfl
@[simp] theorem Flags.withZ_c : (f.withZ z).c = f.c := rfl

end

/-- Bit `i` is clear where the byte shifted right by `i` is even. -/
theorem not_getLsbD_iff (v : Byte) (i : Nat) : (!v.getLsbD i) = true ↔ v.toNat / 2 ^ i % 2 = 0 := by
  rw [Bool.not_eq_true', BitVec.getLsbD, Nat.testBit_eq_decide_div_mod_eq, decide_eq_false_iff_not]
  exact Nat.mod_two_ne_one

/-! What the test leaves, besides the memory and SP. -/

section
variable (o : Word) (s : State) (n : Fin 8) (r : Gpr)

theorem bitTest_z_iff : (bitTest n r o s).f.z = true ↔ (s.reg r).toNat / 2 ^ n.val % 2 = 0 := by
  rw [bitTest_f, Flags.withZ_z]
  exact not_getLsbD_iff (s.reg r) n

@[simp] theorem bitTest_reg (q : Gpr) : (bitTest n r o s).reg q = s.reg q := by
  rw [bitTest, State.setPc_reg, State.setFlags_reg]

/-- The opcode byte of a prefixed instruction is at PC + 1, so the next instruction is at PC + 2. -/
theorem bitTest_opaddr_pc : (bitTest n r (s.opaddr true) s).pc = s.pc + 2 :=
  (bitTest_pc _ s n r).trans (add_one_add_one s.pc)

end

/-- Settles O38: Z takes the complement of the bit, and besides it PC alone is written. -/
theorem bitTestWritesZOnly : Obligations.BitTestWritesZOnly := by
  refine ⟨decodeEntry_bitReg, fun n r s => ⟨_, Laws.exec_bitReg s n r, bitTest_z_iff _ s n r, ?_⟩⟩
  rw [bitTest_f]
  exact ⟨Flags.withZ_n _ _, Flags.withZ_h _ _, Flags.withZ_c _ _, fun q _ => bitTest_reg _ s n r q,
    bitTest_sp _ s n r, bitTest_opaddr_pc s n r, keepsMemoryBut_of_mem_eq (bitTest_mem _ s n r) []⟩

end Sys2Proof.Machine

/-!
PROOFS. The conditional relative jumps (spec/44_jump_relative.md): the target as an integer sum modulo 65536,
the conditions as values of Z, and the state a jump leaves. The statement settled here is O45.
-/
namespace Sys2Proof.Machine

/-! The target and the conditions (R100, R101, R102). -/

/-- The displacement is signed and relative to the following instruction, modulo 65536. -/
theorem add_two_add_sext16 (a : Word) (e : Byte) :
    a + 2 + sext16 e = BitVec.ofInt 16 ((a.toNat : Int) + 2 + e.toInt) := by
  rw [sext16_eq_ofInt, BitVec.ofInt_add, BitVec.ofInt_add, BitVec.ofInt_natCast, BitVec.ofNat_toNat, BitVec.setWidth_eq]
  rfl

theorem condHolds_nz_iff (f : Flags) : condHolds .nz f = true ↔ f.z = false :=
  Iff.of_eq (Bool.not_eq_true' f.z)

theorem condHolds_z_iff (f : Flags) : condHolds .z f = true ↔ f.z = true := Iff.rfl

/-- A relative jump replaces PC alone: by the target where its condition holds, by the following address
otherwise. -/
theorem exec_jrCond_eq_next (cc : Cond) (s : State) :
    exec (jrCond cc) s = .next { s with
      pc := if condHolds cc s.f = true then BitVec.ofInt 16 ((s.pc.toNat : Int) + 2 + (s.read (s.pc + 1)).toInt)
        else s.pc + 2 } := by
  rw [← add_two_add_sext16]
  exact Laws.exec_jrCond s cc

/-- Settles O45: the two table entries are computed, and each condition is read as a value of Z. -/
theorem relativeJumpChangesPcOnly : Obligations.RelativeJumpChangesPcOnly := by
  refine ⟨rfl, rfl, fun s => ⟨?_, ?_⟩⟩
  · simp only [← condHolds_nz_iff]
    exact exec_jrCond_eq_next .nz s
  · simp only [← condHolds_z_iff]
    exact exec_jrCond_eq_next .z s

end Sys2Proof.Machine

/-!
PROOFS. Increment and decrement (spec/45_inc_dec.md): a step down by one as a sum, the effect of a pair write,
and what each step leaves. The statements settled here are O39 and O40.
-/
namespace Sys2Proof.Machine

/-- A step down adds -1, which is 255 for a byte and 65535 for a word. -/
theorem toNat_sub_one {w : Nat} (v : BitVec w) : (v - 1).toNat = (v.toNat + (-1 : BitVec w).toNat) % 2 ^ w := by
  rw [BitVec.sub_eq_add_neg, BitVec.toNat_add]

/-- From `s` to `t` the pair `rr`, or SP, takes the value `v`, PC goes to `next`, and nothing else changes. -/
def LoadsPairOnly (rr : PairSp) (v next : Word) (s t : State) : Prop :=
  t.get16 rr.sel = v ∧ KeepsRegsBut (halvesSp rr) s t ∧ (rr ≠ .sp → t.sp = s.sp) ∧ t.f = s.f ∧ t.pc = next ∧
    KeepsMemoryBut [] s t

theorem State.set16_setPc_loadsPairOnly (s : State) (rr : PairSp) (v x : Word) :
    LoadsPairOnly rr v x s ((s.set16 rr.sel v).setPc x) := by
  refine ⟨?_, fun q hq => ?_, s.set16_pairSp_sp_of_ne v, s.set16_pairSp_f v rr, rfl,
    keepsMemoryBut_of_mem_eq (s.set16_pairSp_mem v rr) []⟩
  · rw [setPc_get16_pairSp, get16_set16_pairSp]
  · rw [setPc_reg, s.set16_pairSp_keepsRegsBut rr v q hq]

/-! What the steps leave (R105 to R108). -/

section
variable (o : Word) (s : State) (r : Gpr) (rr : PairSp)

theorem incReg8_loadsOnly : LoadsOnly r (s.reg r + 1) (o + 1) s (incReg8 r o s) :=
  s.setReg_setPc_loadsOnly r _ _

theorem decReg8_loadsOnly : LoadsOnly r (s.reg r - 1) (o + 1) s (decReg8 r o s) :=
  s.setReg_setPc_loadsOnly r _ _

theorem incReg16_loadsPairOnly : LoadsPairOnly rr (s.get16 rr.sel + 1) (o + 1) s (incReg16 rr o s) :=
  s.set16_setPc_loadsPairOnly rr _ _

theorem decReg16_loadsPairOnly : LoadsPairOnly rr (s.get16 rr.sel - 1) (o + 1) s (decReg16 rr o s) :=
  s.set16_setPc_loadsPairOnly rr _ _

end

/-- Settles O39: the register takes its value plus or minus one, which wraps at 256, and F is not written. -/
theorem incDecRegisterWritesNoFlag : Obligations.IncDecRegisterWritesNoFlag := by
  refine ⟨fun r => ⟨decodeEntry_incReg r, decodeEntry_decReg r⟩, fun r s =>
    ⟨⟨_, Laws.exec_incReg s r, ?_⟩, ⟨_, Laws.exec_decReg s r, ?_⟩⟩⟩
  · obtain ⟨value, frame⟩ := incReg8_loadsOnly s.pc s r
    exact ⟨(congrArg BitVec.toNat value).trans (BitVec.toNat_add (s.reg r) 1), frame⟩
  · obtain ⟨value, frame⟩ := decReg8_loadsOnly s.pc s r
    exact ⟨(congrArg BitVec.toNat value).trans (toNat_sub_one (s.reg r)), frame⟩

/-- Settles O40: the pair or SP takes its value plus or minus one, which wraps at 65536, and F is not
written. -/
theorem incDecPairWritesNoFlag : Obligations.IncDecPairWritesNoFlag := by
  refine ⟨fun rr => ⟨decodeEntry_incPair rr, decodeEntry_decPair rr⟩, fun rr s =>
    ⟨⟨_, Laws.exec_incPair s rr, ?_⟩, ⟨_, Laws.exec_decPair s rr, ?_⟩⟩⟩
  · obtain ⟨value, frame⟩ := incReg16_loadsPairOnly s.pc s rr
    exact ⟨(congrArg BitVec.toNat value).trans (BitVec.toNat_add (s.get16 rr.sel) 1), frame⟩
  · obtain ⟨value, frame⟩ := decReg16_loadsPairOnly s.pc s rr
    exact ⟨(congrArg BitVec.toNat value).trans (toNat_sub_one (s.get16 rr.sel)), frame⟩

end Sys2Proof.Machine

/-!
PROOFS. Call and return (spec/46_call_return.md): the effect of a push, which CALL has besides its jump, and
what a return leaves. The statements settled here are O47 and O48.
-/
namespace Sys2Proof.Machine

/-! The effect of a push (R117). -/

/-- From `s` to `t` the word `v` is pushed, high byte above low byte, and nothing else changes but PC. The two
cells read back where the memory of `s` is canonical. -/
def Pushes (v : Word) (s t : State) : Prop :=
  t.sp = s.sp - 2 ∧
  (s.Inv → (t.read (s.sp - 1)).toNat = v.toNat / 256 ∧ (t.read (s.sp - 2)).toNat = v.toNat % 256) ∧
  KeepsMemoryBut [s.sp - 1, s.sp - 2] s t ∧ KeepsRegsBut [] s t ∧ t.f = s.f

namespace State

theorem push16_keepsMemoryBut (s : State) (v : Word) : KeepsMemoryBut [s.sp - 1, s.sp - 2] s (s.push16 v) := by
  intro a ha
  simp only [List.mem_cons, List.not_mem_nil, or_false, not_or] at ha
  obtain ⟨hHi, hLo⟩ := ha
  exact s.read_push16_of_ne v hHi hLo

theorem push16_pushes (s : State) (v : Word) : Pushes v s (s.push16 v) := by
  refine ⟨s.push16_sp v, fun inv => ⟨?_, ?_⟩, s.push16_keepsMemoryBut v, fun q _ => s.push16_reg v q, s.push16_f v⟩
  · rw [read_push16_hi inv, hiByte_toNat]
  · rw [read_push16_lo inv, loByte_toNat]

end State

/-- A jump after the push changes PC alone. -/
theorem Pushes.setPc {v : Word} {s t : State} (h : Pushes v s t) (x : Word) : Pushes v s (t.setPc x) := by
  obtain ⟨hsp, hcells, hmem, hreg, hf⟩ := h
  exact ⟨hsp, hcells, hmem, fun q hq => (t.setPc_reg x q).trans (hreg q hq), hf⟩

/-! What CALL and RET leave (R110, R111), besides the memory, SP and the flags. -/

section
variable (o : Word) (s : State)

/-- The target is the immediate of the start state, whatever the push writes. -/
@[simp] theorem callAbs_pc : (callAbs o s).pc = s.imm16 o := rfl

theorem callAbs_pushes : Pushes (o + 3) s (callAbs o s) := (s.push16_pushes (o + 3)).setPc (s.imm16 o)

/-- The popped value is used exactly, and the address of the RET does not enter. -/
@[simp] theorem returnFromCall_pc : (returnFromCall o s).pc = joinBytes (s.read (s.sp + 1)) (s.read s.sp) := rfl

@[simp] theorem returnFromCall_reg (q : Gpr) : (returnFromCall o s).reg q = s.reg q := by
  rw [returnFromCall, State.setPc_reg, State.pop16_reg]

end

/-- Settles O47: PC takes the immediate of the start state, and besides it CALL is the push of PC + 3. -/
theorem callPushesReturnAddress : Obligations.CallPushesReturnAddress := by
  refine ⟨rfl, fun s => ⟨_, Laws.exec_call_a16 s, ?_, callAbs_pushes s.pc s⟩⟩
  rw [callAbs_pc]
  exact s.imm16_toNat s.pc

/-- Settles O48: PC takes the two bytes at SP joined, and besides it SP alone is written. -/
theorem returnPopsPc : Obligations.ReturnPopsPc := by
  refine ⟨rfl, fun s => ⟨_, Laws.exec_ret s, ?_, returnFromCall_sp _ s, fun q _ => returnFromCall_reg _ s q,
    returnFromCall_f _ s, keepsMemoryBut_of_mem_eq (returnFromCall_mem _ s) []⟩⟩
  rw [returnFromCall_pc]
  exact joinBytes_toNat _ _

end Sys2Proof.Machine

/-!
PROOFS. Push and pop (spec/47_push_pop.md): the round trip of the stack primitives, and what PUSH and POP leave.
The statements settled here are O46, O50, O51 and O52.
-/
namespace Sys2Proof.Machine

namespace State

/-! The stack primitives (R117). -/

theorem pop16_snd (s : State) : s.pop16.2 = { s with sp := s.sp + 2 } :=
  congrArg s.setSp (add_one_add_one s.sp)

theorem setPc_pop16_fst (s : State) (x : Word) : (s.setPc x).pop16.1 = s.pop16.1 := rfl

/-- The two cells a push writes are the two the pop after it reads, also where SP wraps. -/
theorem pop16_push16_fst {s : State} (inv : s.Inv) (v : Word) : (s.push16 v).pop16.1 = v := by
  have hi : s.sp - 2 + 1 = s.sp - 1 := by bv_omega
  rw [pop16_fst, push16_sp, hi, read_push16_hi inv, read_push16_lo inv, joinBytes_hiByte_loByte]

theorem pop16_push16_sp (s : State) (v : Word) : (s.push16 v).pop16.2.sp = s.sp := by
  rw [pop16_sp, push16_sp, BitVec.sub_add_cancel]

/-! The pairs of PUSH and POP (R13, R14). -/

/-- The byte of F has a zero low nibble. -/
theorem get16_af_toNat_mod_16 (s : State) : (s.get16 .af).toNat % 16 = 0 := by
  have hpair : (s.get16 .af).toNat = 256 * s.a.toNat + s.f.toByte.toNat := joinBytes_toNat s.a s.f.toByte
  rw [hpair, Flags.toByte_toNat]
  omega

/-- A pair takes its own value from another state without loss. For AF, F has no low nibble to lose. -/
theorem get16_set16_get16_pairAf (s t : State) (rr : PairAf) :
    (t.set16 rr.sel (s.get16 rr.sel)).get16 rr.sel = s.get16 rr.sel := by
  by_cases h : rr = .af
  · subst h
    calc (t.set16 .af (s.get16 .af)).get16 .af
        = joinBytes (hiByte (joinBytes s.a s.f.toByte)) (Flags.ofByte (loByte (joinBytes s.a s.f.toByte))).toByte := rfl
      _ = joinBytes s.a s.f.toByte := by rw [hiByte_joinBytes, loByte_joinBytes, Flags.ofByte_toByte]
  · exact t.get16_set16_pairAf h _

/-- A write to a pair reaches its halves alone; for AF the general register A. -/
theorem set16_pairAf_keepsRegsBut (s : State) (p : PairAf) (x : Word) :
    KeepsRegsBut (halvesAf p) s (s.set16 p.sel x) := by
  cases p with
  | bc => exact s.setReg_setReg_keepsRegsBut .b .c _ _
  | de => exact s.setReg_setReg_keepsRegsBut .d .e _ _
  | hl => exact s.setReg_setReg_keepsRegsBut .h .l _ _
  | af => exact fun q hq => (reg_set8_f _ q _).trans (s.setReg_keepsRegsBut .a _ q hq)

end State

/-! What PUSH and POP leave (R115, R116), besides the memory, SP, PC and the flags. -/

section
variable (o : Word) (s : State) (rr : PairAf)

theorem pushReg16_pushes : Pushes (s.get16 rr.sel) s (pushReg16 rr o s) :=
  (s.push16_pushes (s.get16 rr.sel)).setPc (o + 1)

theorem popReg16_get16 : (popReg16 rr o s).get16 rr.sel = (s.pop16.2.set16 rr.sel s.pop16.1).get16 rr.sel :=
  State.setPc_get16_pairAf _ rr (o + 1)

variable {rr} in
theorem popReg16_get16_of_ne (h : rr ≠ .af) : (popReg16 rr o s).get16 rr.sel = s.pop16.1 := by
  rw [popReg16_get16, State.get16_set16_pairAf _ h]

@[simp] theorem popReg16_af_reg_a : (popReg16 .af o s).reg .a = s.read (s.sp + 1) :=
  hiByte_joinBytes (s.read (s.sp + 1)) (s.read s.sp)

theorem popReg16_keepsRegsBut : KeepsRegsBut (halvesAf rr) s (popReg16 rr o s) := by
  intro q hq
  rw [popReg16, State.setPc_reg, State.set16_pairAf_keepsRegsBut _ rr _ q hq, State.pop16_reg]

variable {s} in
theorem pop16_pushReg16_fst (inv : s.Inv) : (pushReg16 rr o s).pop16.1 = s.get16 rr.sel :=
  ((s.push16 (s.get16 rr.sel)).setPc_pop16_fst (o + 1)).trans (State.pop16_push16_fst inv (s.get16 rr.sel))

end

/-- Settles O46: a push has the effect `Pushes` and writes SP and memory alone, a pop joins the two bytes at
SP, and the pop reads the cells the push wrote. -/
theorem stackPrimitives : Obligations.StackPrimitives := by
  refine ⟨fun s v => ?_, fun s => ⟨joinBytes_toNat _ _, s.pop16_snd⟩,
    fun s v inv => ⟨State.pop16_push16_fst inv v, s.pop16_push16_sp v⟩⟩
  obtain ⟨hsp, hcells, hmem, -⟩ := s.push16_pushes v
  exact ⟨hsp, hcells, hmem, rfl⟩

/-- Settles O50: PUSH is the push of the pair, whose low byte for AF is the byte of F. -/
theorem pushStoresThePair : Obligations.PushStoresThePair := by
  refine ⟨decodeEntry_pushPair, fun rr s => ⟨_, Laws.exec_pushPair s rr, ?_⟩⟩
  obtain ⟨hsp, hcells, hmem, hreg, hf⟩ := pushReg16_pushes (s.opaddr false) s rr
  refine ⟨hsp, fun inv => ?_, hmem, hreg, hf, pushReg16_pc _ s rr⟩
  obtain ⟨hi, lo⟩ := hcells inv
  refine ⟨hi, lo, ?_⟩
  rintro rfl
  rw [lo, Nat.mod_mod_of_dvd _ (by decide)]
  exact s.get16_af_toNat_mod_16

/-- Settles O51: the popped word is written to the pair, whose low byte for AF is the four flags. -/
theorem popLoadsThePair : Obligations.PopLoadsThePair := by
  refine ⟨decodeEntry_popPair, fun rr s => ⟨_, Laws.exec_popPair s rr, popReg16_sp _ s rr,
    fun h => ⟨?_, popReg16_f_of_ne _ s h⟩, ?_, popReg16_keepsRegsBut _ s rr, popReg16_pc _ s rr,
    keepsMemoryBut_of_mem_eq (popReg16_mem _ s rr) []⟩⟩
  · rw [popReg16_get16_of_ne _ s h]
    exact joinBytes_toNat _ _
  · rintro rfl
    exact ⟨popReg16_af_reg_a _ s, popReg16_af_f _ s⟩

/-- Settles O52: the word popped is the word pushed, and only POP AF can lose bits of it, which AF itself
does not have. -/
theorem popAfterPushRestoresOrCopies : Obligations.PopAfterPushRestoresOrCopies := by
  intro rr rr' s inv
  refine ⟨_, _, Laws.exec_pushPair s rr, Laws.exec_popPair _ rr', ?_, ?_, fun h => ?_⟩
  · rw [popReg16_sp, pushReg16_sp, BitVec.sub_add_cancel]
  · rintro rfl
    rw [popReg16_get16, pop16_pushReg16_fst _ _ inv, State.get16_set16_get16_pairAf]
  · rw [popReg16_get16_of_ne _ _ h, pop16_pushReg16_fst _ _ inv]

end Sys2Proof.Machine

/-!
PROOFS. What any instruction that completes leaves of the memory, SP, the flags and PC (spec/10_state.md,
spec/20_memory.md, spec/30_encoding.md): one lemma over the effects for each, and what the tables of writers say
follows from it. The statements settled here are O3, O53, O54, O55 and O56.
-/
namespace Sys2Proof.Machine

open Sys2Proof.Laws (Effect effect_of_next)

/-! What each family of instructions is listed as writing (R15, R18, R30), and where it transfers control (R59). -/

theorem writesMemory_ldAtHlReg (r : Gpr) : writesMemory (ldAtHlReg r) = true := by cases r <;> rfl
theorem writesMemory_pushPair (rr : PairAf) : writesMemory (pushPair rr) = true := by cases rr <;> rfl

theorem writesSp_pushPair (rr : PairAf) : writesSp (pushPair rr) = true := by cases rr <;> rfl
theorem writesSp_popPair (rr : PairAf) : writesSp (popPair rr) = true := by cases rr <;> rfl

theorem writesFlags_xorReg (r : Gpr) : writesFlags (xorReg r) = ⟨true, true, true, true⟩ := by cases r <;> rfl
theorem writesFlags_addReg (r : Gpr) : writesFlags (addReg r) = ⟨true, true, true, true⟩ := by cases r <;> rfl
theorem writesFlags_rlReg (r : Gpr) : writesFlags (rlReg r) = ⟨true, false, false, true⟩ := by cases r <;> rfl
theorem writesFlags_bitReg (n : Fin 8) (r : Gpr) : writesFlags (bitReg n r) = ⟨true, false, false, false⟩ := by
  fin_cases n <;> cases r <;> rfl

theorem transfersControl_jrCond (cc : Cond) (f : Flags) : transfersControl (jrCond cc) f = condHolds cc f := by
  cases cc <;> rfl

/-! The flags a rotation writes and keeps (R120). -/

section
variable (f : Flags) (z c : Bool)

@[simp] theorem Flags.withZC_z : (f.withZC z c).z = z := rfl
@[simp] theorem Flags.withZC_n : (f.withZC z c).n = f.n := rfl
@[simp] theorem Flags.withZC_h : (f.withZC z c).h = f.h := rfl
@[simp] theorem Flags.withZC_c : (f.withZC z c).c = c := rfl

end

/-! The memory (R30). -/

/-- An instruction that completes leaves the memory as it was, or is listed as writing it and makes one write or
one push. -/
theorem effect_mem {s t : State} {i : Instr} (h : Effect s i t) :
    t.mem = s.mem ∨
      writesMemory i = true ∧ ((∃ a v, t.mem = (s.write a v).mem) ∨ ∃ v, t.mem = (s.push16 v).mem) := by
  cases h with
  | ldAtHlReg r => exact .inr ⟨writesMemory_ldAtHlReg r, .inl ⟨_, _, rfl⟩⟩
  | ld_atHL_d8 => exact .inr ⟨rfl, .inl ⟨_, _, rfl⟩⟩
  | ld_atBC_A => exact .inr ⟨rfl, .inl ⟨_, _, rfl⟩⟩
  | ld_atDE_A => exact .inr ⟨rfl, .inl ⟨_, _, rfl⟩⟩
  | ld_atHLinc_A => exact .inr ⟨rfl, .inl ⟨_, _, rfl⟩⟩
  | ld_atHLdec_A => exact .inr ⟨rfl, .inl ⟨_, _, rfl⟩⟩
  | ld_atC_A => exact .inr ⟨rfl, .inl ⟨_, _, rfl⟩⟩
  | ldh_a8_A => exact .inr ⟨rfl, .inl ⟨_, _, rfl⟩⟩
  | ld_a16_A => exact .inr ⟨rfl, .inl ⟨_, _, rfl⟩⟩
  | pushPair rr => exact .inr ⟨writesMemory_pushPair rr, .inr ⟨_, rfl⟩⟩
  | call_a16 => exact .inr ⟨rfl, .inr ⟨_, rfl⟩⟩
  | _ => exact .inl (by simp)

/-- An instruction that completes keeps the canonical form. -/
theorem exec_keeps_inv {s t : State} {i : Instr} (inv : s.Inv) (h : exec i s = .next t) : t.Inv := by
  unfold State.Inv
  rcases effect_mem (effect_of_next h) with same | ⟨-, ⟨a, v, written⟩ | ⟨v, pushed⟩⟩
  · rw [same]
    exact inv
  · rw [written]
    exact State.wf_write inv a v
  · rw [pushed]
    exact State.wf_push16 inv v

/-- Settles O3: a step is an execution, which leaves the memory or makes one write or one push. -/
theorem everyStepKeepsInvariant : Obligations.EveryStepKeepsInvariant :=
  fun _ _ => exec_keeps_inv

/-- Settles O55: an instruction that is not listed leaves the memory as it was. -/
theorem onlyTheListedInstructionsWriteMemory : Obligations.OnlyTheListedInstructionsWriteMemory := by
  intro i s t notListed h
  rcases effect_mem (effect_of_next h) with same | ⟨listed, -⟩
  · exact keepsMemoryBut_of_mem_eq same []
  · rw [notListed] at listed
    cases listed

/-! SP (R15). -/

theorem incReg16_sp_of_ne (o : Word) (s : State) {rr : PairSp} (h : rr ≠ .sp) : (incReg16 rr o s).sp = s.sp :=
  s.set16_pairSp_sp_of_ne _ h

theorem decReg16_sp_of_ne (o : Word) (s : State) {rr : PairSp} (h : rr ≠ .sp) : (decReg16 rr o s).sp = s.sp :=
  s.set16_pairSp_sp_of_ne _ h

/-- An instruction that completes is listed as writing SP or keeps it. An operation on a pair writes SP only where
the pair is SP. -/
theorem effect_sp {s t : State} {i : Instr} (h : Effect s i t) : writesSp i = true ∨ t.sp = s.sp := by
  cases h with
  | ldPairImm rr =>
    rcases eq_or_ne rr .sp with rfl | hrr
    · exact .inl rfl
    · exact .inr (loadPairImm_sp_of_ne _ s hrr)
  | incPair rr =>
    rcases eq_or_ne rr .sp with rfl | hrr
    · exact .inl rfl
    · exact .inr (incReg16_sp_of_ne _ s hrr)
  | decPair rr =>
    rcases eq_or_ne rr .sp with rfl | hrr
    · exact .inl rfl
    · exact .inr (decReg16_sp_of_ne _ s hrr)
  | ld_SP_HL => exact .inl rfl
  | call_a16 => exact .inl rfl
  | ret => exact .inl rfl
  | pushPair rr => exact .inl (writesSp_pushPair rr)
  | popPair rr => exact .inl (writesSp_popPair rr)
  -- The lemma is named: after `simp` the kernel would evaluate the step.
  | ld_atHLinc_A => exact .inr (storeAHlStep_sp _ s _)
  | ld_atHLdec_A => exact .inr (storeAHlStep_sp _ s _)
  | _ => exact .inr (by simp)

/-- Settles O54: an instruction that is not listed keeps SP; the escape byte's row would as well. -/
theorem onlyTheListedInstructionsWriteSp : Obligations.OnlyTheListedInstructionsWriteSp := by
  intro i s t _ notListed h
  refine (effect_sp (effect_of_next h)).resolve_left fun listed => ?_
  rw [notListed] at listed
  cases listed

/-! The flags (R18). -/

/-- From `f` to `g` no flag differs but those marked in `written`. -/
def Flags.KeepsBut (written f g : Flags) : Prop :=
  (written.z = false → g.z = f.z) ∧ (written.n = false → g.n = f.n) ∧ (written.h = false → g.h = f.h) ∧
    (written.c = false → g.c = f.c)

theorem Flags.keepsBut_of_eq (written : Flags) {f g : Flags} (h : g = f) : KeepsBut written f g :=
  h ▸ ⟨fun _ => rfl, fun _ => rfl, fun _ => rfl, fun _ => rfl⟩

theorem Flags.keepsBut_all (f g : Flags) : KeepsBut ⟨true, true, true, true⟩ f g :=
  ⟨nofun, nofun, nofun, nofun⟩

theorem Flags.keepsBut_withZ (f : Flags) (z : Bool) : KeepsBut ⟨true, false, false, false⟩ f (f.withZ z) :=
  ⟨nofun, fun _ => f.withZ_n z, fun _ => f.withZ_h z, fun _ => f.withZ_c z⟩

theorem Flags.keepsBut_withZC (f : Flags) (z c : Bool) : KeepsBut ⟨true, false, false, true⟩ f (f.withZC z c) :=
  ⟨nofun, fun _ => f.withZC_n z c, fun _ => f.withZC_h z c, nofun⟩

/-- An instruction that completes keeps each flag the table of writers does not name for it. -/
theorem effect_flags {s t : State} {i : Instr} (h : Effect s i t) (notEscape : i ≠ .escape) :
    Flags.KeepsBut (writesFlags i) s.f t.f := by
  cases h with
  | xorReg r =>
    rw [writesFlags_xorReg]
    exact Flags.keepsBut_all _ _
  | addReg r =>
    rw [writesFlags_addReg]
    exact Flags.keepsBut_all _ _
  | popPair rr =>
    rcases eq_or_ne rr .af with rfl | hrr
    · exact Flags.keepsBut_all _ _
    · exact Flags.keepsBut_of_eq _ (popReg16_f_of_ne _ s hrr)
  | rlReg r =>
    rw [writesFlags_rlReg, rotateLeft_f]
    exact s.f.keepsBut_withZC _ _
  | bitReg n r =>
    rw [writesFlags_bitReg, bitTest_f]
    exact s.f.keepsBut_withZ _
  | cp_d8 =>
    rw [compareImm_f]
    exact s.f.keepsBut_withZ _
  | escapeRl r => exact absurd rfl notEscape
  | escapeBit n r => exact absurd rfl notEscape
  | ld_atHLinc_A => exact Flags.keepsBut_of_eq _ (storeAHlStep_f _ s _)
  | ld_atHLdec_A => exact Flags.keepsBut_of_eq _ (storeAHlStep_f _ s _)
  | _ => exact Flags.keepsBut_of_eq _ (by simp)

/-- Settles O53: the flags kept are those the table of writers does not name. -/
theorem onlyTheListedInstructionsWriteFlags : Obligations.OnlyTheListedInstructionsWriteFlags :=
  fun _ _ _ notEscape h => effect_flags (effect_of_next h) notEscape

/-! PC (R59), and the format of each family (R50). -/

@[simp] theorem format_ldPairImm (rr : PairSp) : (ldPairImm rr).format = .opD16 := by cases rr <;> rfl
@[simp] theorem format_ldRegReg (r r' : Gpr) : (ldRegReg r r').format = .op := by cases r <;> cases r' <;> rfl
@[simp] theorem format_ldRegImm (r : Gpr) : (ldRegImm r).format = .opD8 := by cases r <;> rfl
@[simp] theorem format_ldRegAtHl (r : Gpr) : (ldRegAtHl r).format = .op := by cases r <;> rfl
@[simp] theorem format_ldAtHlReg (r : Gpr) : (ldAtHlReg r).format = .op := by cases r <;> rfl
@[simp] theorem format_xorReg (r : Gpr) : (xorReg r).format = .op := by cases r <;> rfl
@[simp] theorem format_bitReg (n : Fin 8) (r : Gpr) : (bitReg n r).format = .cbOp := by
  fin_cases n <;> cases r <;> rfl
@[simp] theorem format_jrCond (cc : Cond) : (jrCond cc).format = .opE8 := by cases cc <;> rfl
@[simp] theorem format_incReg (r : Gpr) : (incReg r).format = .op := by cases r <;> rfl
@[simp] theorem format_decReg (r : Gpr) : (decReg r).format = .op := by cases r <;> rfl
@[simp] theorem format_incPair (rr : PairSp) : (incPair rr).format = .op := by cases rr <;> rfl
@[simp] theorem format_decPair (rr : PairSp) : (decPair rr).format = .op := by cases rr <;> rfl
@[simp] theorem format_pushPair (rr : PairAf) : (pushPair rr).format = .op := by cases rr <;> rfl
@[simp] theorem format_popPair (rr : PairAf) : (popPair rr).format = .op := by cases rr <;> rfl
@[simp] theorem format_rlReg (r : Gpr) : (rlReg r).format = .cbOp := by cases r <;> rfl
@[simp] theorem format_addReg (r : Gpr) : (addReg r).format = .op := by cases r <;> rfl

/-- A relative jump whose condition fails continues at the following instruction (R100). -/
theorem jumpRelative_pc_of_not_condHolds (o : Word) (s : State) {cc : Cond} (h : condHolds cc s.f = false) :
    (jumpRelative cc o s).pc = o + 2 := by
  rw [jumpRelative, State.setPc_pc, h, if_neg Bool.false_ne_true]

/-- An instruction that completes without a transfer of control continues after the bytes of its format. -/
theorem effect_pc {s t : State} {i : Instr} (h : Effect s i t) (notEscape : i ≠ .escape)
    (sequential : transfersControl i s.f = false) :
    ∃ fmt n, i.format = fmt ∧ fmt.lengthAfterOpaddr = some n ∧
      t.pc = s.opaddr (fmt == .cbOp) + BitVec.ofNat 16 n := by
  cases h with
  | nop => exact ⟨.op, 1, rfl, rfl, rfl⟩
  | ldPairImm rr => exact ⟨.opD16, 3, format_ldPairImm rr, rfl, rfl⟩
  | ld_SP_HL => exact ⟨.op, 1, rfl, rfl, rfl⟩
  | ldRegReg r r' => exact ⟨.op, 1, format_ldRegReg r r', rfl, rfl⟩
  | ldRegImm r => exact ⟨.opD8, 2, format_ldRegImm r, rfl, rfl⟩
  | ldRegAtHl r => exact ⟨.op, 1, format_ldRegAtHl r, rfl, rfl⟩
  | ldAtHlReg r => exact ⟨.op, 1, format_ldAtHlReg r, rfl, rfl⟩
  | ld_atHL_d8 => exact ⟨.opD8, 2, rfl, rfl, rfl⟩
  | ld_A_atBC => exact ⟨.op, 1, rfl, rfl, rfl⟩
  | ld_A_atDE => exact ⟨.op, 1, rfl, rfl, rfl⟩
  | ld_atBC_A => exact ⟨.op, 1, rfl, rfl, rfl⟩
  | ld_atDE_A => exact ⟨.op, 1, rfl, rfl, rfl⟩
  | ld_atHLinc_A => exact ⟨.op, 1, rfl, rfl, rfl⟩
  | ld_atHLdec_A => exact ⟨.op, 1, rfl, rfl, rfl⟩
  | ld_atC_A => exact ⟨.op, 1, rfl, rfl, rfl⟩
  | ldh_a8_A => exact ⟨.opD8, 2, rfl, rfl, rfl⟩
  | ld_a16_A => exact ⟨.opD16, 3, rfl, rfl, rfl⟩
  | xorReg r => exact ⟨.op, 1, format_xorReg r, rfl, rfl⟩
  | bitReg n r => exact ⟨.cbOp, 1, format_bitReg n r, rfl, rfl⟩
  | jrCond cc =>
    rw [transfersControl_jrCond] at sequential
    exact ⟨.opE8, 2, format_jrCond cc, rfl, jumpRelative_pc_of_not_condHolds _ s sequential⟩
  | incReg r => exact ⟨.op, 1, format_incReg r, rfl, rfl⟩
  | decReg r => exact ⟨.op, 1, format_decReg r, rfl, rfl⟩
  | incPair rr => exact ⟨.op, 1, format_incPair rr, rfl, rfl⟩
  | decPair rr => exact ⟨.op, 1, format_decPair rr, rfl, rfl⟩
  | pushPair rr => exact ⟨.op, 1, format_pushPair rr, rfl, rfl⟩
  | popPair rr => exact ⟨.op, 1, format_popPair rr, rfl, rfl⟩
  | rlReg r => exact ⟨.cbOp, 1, format_rlReg r, rfl, rfl⟩
  | cp_d8 => exact ⟨.opD8, 2, rfl, rfl, rfl⟩
  | addReg r => exact ⟨.op, 1, format_addReg r, rfl, rfl⟩
  | call_a16 => cases sequential
  | ret => cases sequential
  | escapeRl r => exact absurd rfl notEscape
  | escapeBit n r => exact absurd rfl notEscape

/-- Settles O56: PC goes past the bytes of the format, and a prefixed instruction has one byte after the escape
byte. -/
theorem sequentialPcAdvance : Obligations.SequentialPcAdvance := by
  intro i n s t len sequential h
  have notEscape : i ≠ .escape := by
    rintro rfl
    cases len
  obtain ⟨fmt, m, rfl, hm, hpc⟩ := effect_pc (effect_of_next h) notEscape sequential
  obtain rfl : n = m := Option.some.inj (len.symm.trans hm)
  refine ⟨hpc, fun pre => ?_⟩
  rw [Instr.isPrefixed] at pre
  rw [beq_iff_eq.mp pre] at hpc len
  cases len
  exact hpc.trans (add_one_add_one s.pc)

end Sys2Proof.Machine

/-!
PROOFS. Decode and encode (spec/30_encoding.md): where an opcode byte stands in the two tables, and that every
well-formed instruction stands at one. The statements settled here are O8, O9, O10, O7, O11 and O13.
-/
namespace Sys2Proof

/-- The bytes that put an opcode byte before one of the two tables (R51). -/
def opcodeBytes (op : Byte) : Bool → List Byte
  | false => [op]
  | true => [Config.escapeByte, op]

theorem opcodeBytes_inj {op op' : Byte} {prefixed prefixed' : Bool}
    (h : opcodeBytes op prefixed = opcodeBytes op' prefixed') : op = op' ∧ prefixed = prefixed' := by
  cases prefixed <;> cases prefixed' <;> cases h
  · exact ⟨rfl, rfl⟩
  · exact ⟨rfl, rfl⟩

/-! The two tables against the unmapped rows, the encoder and the checks, byte by byte. -/

/-- The bytes the unmapped rows cover are those without an entry (R57). -/
theorem isUnmapped_iff : ∀ (op : Byte) (prefixed : Bool),
    isUnmapped op prefixed = true ↔ decodeEntry op prefixed = none := by decide +kernel

/-- The encoder writes the bytes at which an instruction stands. -/
theorem encode_decodeOpcode : ∀ (op : Byte) (prefixed : Bool),
    encode (decodeOpcode op prefixed) = opcodeBytes op prefixed := by decide +kernel

theorem wf_decodeOpcode : ∀ (op : Byte) (prefixed : Bool), (decodeOpcode op prefixed).wf = true := by decide +kernel

theorem decodeOpcode_escapeByte : decodeOpcode Config.escapeByte false = .escape := rfl

/-- The escape byte's row stands at the escape byte of the plain table alone. -/
theorem eq_escapeByte_of_decodeOpcode {op : Byte} {prefixed : Bool} (h : decodeOpcode op prefixed = .escape) :
    op = Config.escapeByte ∧ prefixed = false := by
  apply opcodeBytes_inj
  rw [← encode_decodeOpcode op prefixed, h]
  rfl

/-- Every well-formed instruction stands in one of the tables: each family where its pattern says (R53), an unmapped
encoding at its own byte. -/
theorem exists_decodeOpcode_eq {i : Instr} (wf : i.wf = true) : ∃ op prefixed, decodeOpcode op prefixed = i := by
  cases Laws.family i with
  | nop => exact ⟨0x00, false, rfl⟩
  | ldPairImm rr => exact ⟨_, _, decodeOpcode_of_some (decodeEntry_ldPairImm rr)⟩
  | ld_SP_HL => exact ⟨0xF9, false, rfl⟩
  | ldRegReg r r' => exact ⟨_, _, decodeOpcode_of_some (decodeEntry_ldRegReg r r')⟩
  | ldRegImm r => exact ⟨_, _, decodeOpcode_of_some (decodeEntry_ldRegImm r)⟩
  | ldRegAtHl r => exact ⟨_, _, decodeOpcode_of_some (decodeEntry_ldRegAtHl r)⟩
  | ldAtHlReg r => exact ⟨_, _, decodeOpcode_of_some (decodeEntry_ldAtHlReg r)⟩
  | ld_atHL_d8 => exact ⟨0x36, false, rfl⟩
  | ld_A_atBC => exact ⟨0x0A, false, rfl⟩
  | ld_A_atDE => exact ⟨0x1A, false, rfl⟩
  | ld_atBC_A => exact ⟨0x02, false, rfl⟩
  | ld_atDE_A => exact ⟨0x12, false, rfl⟩
  | ld_atHLinc_A => exact ⟨0x22, false, rfl⟩
  | ld_atHLdec_A => exact ⟨0x32, false, rfl⟩
  | ld_atC_A => exact ⟨0xE2, false, rfl⟩
  | ldh_a8_A => exact ⟨0xE0, false, rfl⟩
  | ld_a16_A => exact ⟨0xEA, false, rfl⟩
  | xorReg r => exact ⟨_, _, decodeOpcode_of_some (decodeEntry_xorReg r)⟩
  | bitReg n r => exact ⟨_, _, decodeOpcode_of_some (decodeEntry_bitReg n r)⟩
  | jrCond cc => exact ⟨_, _, decodeOpcode_of_some (decodeEntry_jrCond cc)⟩
  | incReg r => exact ⟨_, _, decodeOpcode_of_some (decodeEntry_incReg r)⟩
  | decReg r => exact ⟨_, _, decodeOpcode_of_some (decodeEntry_decReg r)⟩
  | incPair rr => exact ⟨_, _, decodeOpcode_of_some (decodeEntry_incPair rr)⟩
  | decPair rr => exact ⟨_, _, decodeOpcode_of_some (decodeEntry_decPair rr)⟩
  | call_a16 => exact ⟨0xCD, false, rfl⟩
  | ret => exact ⟨0xC9, false, rfl⟩
  | pushPair rr => exact ⟨_, _, decodeOpcode_of_some (decodeEntry_pushPair rr)⟩
  | popPair rr => exact ⟨_, _, decodeOpcode_of_some (decodeEntry_popPair rr)⟩
  | rlReg r => exact ⟨_, _, decodeOpcode_of_some (decodeEntry_rlReg r)⟩
  | cp_d8 => exact ⟨0xFE, false, rfl⟩
  | addReg r => exact ⟨_, _, decodeOpcode_of_some (decodeEntry_addReg r)⟩
  | escape => exact ⟨Config.escapeByte, false, decodeOpcode_escapeByte⟩
  | unmapped op prefixed => exact ⟨op, prefixed, decodeOpcode_of_none ((isUnmapped_iff op prefixed).mp wf)⟩

/-! The decoder (R51, R52). -/

/-- The decoder reads the opcode byte in its table, whatever follows; the escape byte is an opcode of the plain table
only where nothing follows it. -/
theorem decode_opcodeBytes (op : Byte) (prefixed : Bool) (rest : List Byte)
    (last : op = Config.escapeByte → prefixed = false → rest = []) :
    decode (opcodeBytes op prefixed ++ rest) = .ok (decodeOpcode op prefixed) := by
  cases prefixed with
  | true => exact congrArg Except.ok (if_pos rfl)
  | false =>
    cases rest with
    | nil => rfl
    | cons b rest => exact congrArg Except.ok (if_neg fun hop => List.cons_ne_nil b rest (last hop rfl))

/-- What the decoder answers is the instruction at an opcode byte, and the bytes begin there. -/
theorem decode_eq_ok {bytes : List Byte} {i : Instr} (h : decode bytes = .ok i) :
    ∃ op prefixed rest, i = decodeOpcode op prefixed ∧ bytes = opcodeBytes op prefixed ++ rest := by
  match bytes, h with
  | [op], h =>
    cases h
    exact ⟨op, false, [], rfl, rfl⟩
  | b0 :: b1 :: rest, h =>
    cases h
    by_cases hb : b0 = Config.escapeByte
    · exact ⟨b1, true, rest, if_pos hb, by rw [hb]; rfl⟩
    · exact ⟨b0, false, b1 :: rest, if_neg hb, rfl⟩

/-- Settles O8: the instruction stands in a table, its encoding is the bytes there, and the decoder reads the entry. -/
theorem decodeOfEncodeIsTheInstruction : Obligations.DecodeOfEncodeIsTheInstruction := by
  intro i rest wf last
  obtain ⟨op, prefixed, rfl⟩ := exists_decodeOpcode_eq wf
  rw [encode_decodeOpcode]
  refine decode_opcodeBytes op prefixed rest ?_
  rintro rfl rfl
  exact last decodeOpcode_escapeByte

/-- Settles O9: the bytes begin at an opcode byte, and the encoding of the entry there is these bytes. -/
theorem decodedInstructionEncodesBack : Obligations.DecodedInstructionEncodesBack := by
  intro bytes i h
  obtain ⟨op, prefixed, rest, rfl, rfl⟩ := decode_eq_ok h
  refine ⟨wf_decodeOpcode op prefixed, rest, ?_⟩
  rw [encode_decodeOpcode]

/-- Settles O11: the lists are compared with the tables byte by byte. -/
theorem unmappedBytesAreTheListedOnes : Obligations.UnmappedBytesAreTheListedOnes :=
  ⟨by decide +kernel, by decide +kernel, rfl⟩

/-- Settles O13: each word is decoded by computation. -/
theorem writtenOutWordsDecodeRight : Obligations.WrittenOutWordsDecodeRight :=
  ⟨rfl, rfl, rfl, rfl, rfl, rfl, rfl, rfl, rfl, rfl, rfl, rfl, rfl, rfl, rfl, rfl, rfl, rfl, rfl, rfl, rfl, rfl⟩

end Sys2Proof

namespace Sys2Proof.Machine

/-! The instruction at PC (R51). -/

/-- The step executes the instruction whose opcode bytes stand at PC; the escape byte is no opcode of the plain
table there. -/
theorem step_of_opcodeBytes {s : State} {op : Byte} {prefixed : Bool}
    (notEscape : decodeOpcode op prefixed ≠ .escape)
    (h : ∀ (k : Nat) (hk : k < (opcodeBytes op prefixed).length),
      s.read (s.pc + BitVec.ofNat 16 k) = (opcodeBytes op prefixed)[k]) :
    step s = exec (decodeOpcode op prefixed) s := by
  have hpc : s.pc + BitVec.ofNat 16 0 = s.pc := BitVec.add_zero s.pc
  cases prefixed with
  | false =>
    obtain rfl : s.read s.pc = op := hpc ▸ h 0 Nat.one_pos
    refine step_plain fun atEscape => notEscape ?_
    rw [atEscape, decodeOpcode_escapeByte]
  | true =>
    have atEscape : s.read s.pc = Config.escapeByte := hpc ▸ h 0 Nat.two_pos
    obtain rfl : s.read (s.pc + 1) = op := h 1 Nat.one_lt_two
    exact step_prefixed atEscape

/-- Settles O10: the instruction stands in a table, and its encoding is the bytes there. -/
theorem encodedInstructionAtPcIsExecuted : Obligations.EncodedInstructionAtPcIsExecuted := by
  intro i s wf notEscape
  obtain ⟨op, prefixed, rfl⟩ := exists_decodeOpcode_eq wf
  rw [encode_decodeOpcode]
  exact step_of_opcodeBytes notEscape

/-- Settles O7: the decoder chooses the table for the bytes at PC as the fetch does. -/
theorem stepRunsTheDecodedInstruction : Obligations.StepRunsTheDecodedInstruction := by
  intro s i h
  cases h
  rfl

end Sys2Proof.Machine

/-!
PROOFS. The canonical memory (spec/20_memory.md) and the boot-image load (spec/70_reset_and_hazards.md): a
canonical list is determined by its cells, and what a bulk store leaves of each cell. The statements settled here
are O2, O4, O5, O23 and O24.
-/
namespace Sys2Proof.Machine

/-! A canonical list is determined by its cells. -/

theorem Memory.cell_cons_same (k : Nat) (w : Byte) (m : Memory) : Memory.cell ((k, w) :: m) k = w := if_pos rfl

theorem Memory.cell_cons_of_ne {k a : Nat} (w : Byte) (m : Memory) (h : a ≠ k) :
    Memory.cell ((k, w) :: m) a = Memory.cell m a := if_neg h.symm

/-- The least address a canonical list holds is no lower than that of a list with the same cells. -/
theorem Memory.head_le_of_cell_eq {k k' : Nat} {w w' : Byte} {m m' : Memory} (h : Memory.wf ((k, w) :: m) = true)
    (h' : Memory.wf ((k', w') :: m') = true)
    (same : ∀ a < Config.memSize, Memory.cell ((k, w) :: m) a = Memory.cell ((k', w') :: m') a) : k' ≤ k := by
  obtain ⟨hk, hw, -, -⟩ := wf_cons.mp h
  obtain ⟨-, -, rising', -⟩ := wf_cons.mp h'
  by_contra below
  have above : ∀ x ∈ (k', w') :: m', k < x.1 := by
    intro x hx
    rcases List.mem_cons.mp hx with rfl | hx
    · exact not_le.mp below
    · exact lt_trans (not_le.mp below) (rising' x hx)
  refine hw ?_
  rw [← cell_cons_same k w m, same k hk, cell_of_lt_all above]

/-- A canonical list that is not empty has a cell that differs from its reset value. -/
theorem Memory.not_forall_cell_eq_resetCell {k : Nat} {w : Byte} {m : Memory} (h : Memory.wf ((k, w) :: m) = true) :
    ¬∀ a < Config.memSize, Memory.cell ((k, w) :: m) a = Config.resetCell := by
  intro same
  obtain ⟨hk, hw, -, -⟩ := wf_cons.mp h
  exact hw ((cell_cons_same k w m).symm.trans (same k hk))

/-- Canonical lists with the same cells are the same list: their heads are at the same least address, and the rest
have the same cells. -/
theorem Memory.eq_of_cell_eq {m m' : Memory} (h : Memory.wf m = true) (h' : Memory.wf m' = true)
    (same : ∀ a < Config.memSize, Memory.cell m a = Memory.cell m' a) : m = m' := by
  induction m generalizing m' with
  | nil =>
    cases m' with
    | nil => rfl
    | cons x' m' => exact absurd (fun a ha => (same a ha).symm) (not_forall_cell_eq_resetCell h')
  | cons x m ih =>
    obtain ⟨k, w⟩ := x
    cases m' with
    | nil => exact absurd same (not_forall_cell_eq_resetCell h)
    | cons x' m' =>
      obtain ⟨k', w'⟩ := x'
      obtain rfl : k = k' := le_antisymm (head_le_of_cell_eq h' h fun a ha => (same a ha).symm)
        (head_le_of_cell_eq h h' same)
      obtain ⟨hk, -, rising, hm⟩ := wf_cons.mp h
      obtain ⟨-, -, rising', hm'⟩ := wf_cons.mp h'
      obtain rfl : w = w' := by
        rw [← cell_cons_same k w m, same k hk, cell_cons_same]
      rw [ih hm hm' fun a ha => ?_]
      rcases eq_or_ne a k with rfl | hak
      · rw [cell_of_lt_all rising, cell_of_lt_all rising']
      · rw [← cell_cons_of_ne w m hak, same a ha, cell_cons_of_ne w m' hak]

/-- An address below the size of the memory is a word. -/
theorem State.cell_eq_read (s : State) {a : Nat} (h : a < Config.memSize) :
    Memory.cell s.mem a = s.read (BitVec.ofNat 16 a) :=
  congrArg (Memory.cell s.mem) (Nat.mod_eq_of_lt h).symm

theorem State.mem_eq_of_read_eq {s t : State} (hs : s.Inv) (ht : t.Inv) (same : ∀ a : Word, t.read a = s.read a) :
    t.mem = s.mem := by
  refine Memory.eq_of_cell_eq ht hs fun a ha => ?_
  rw [t.cell_eq_read ha, same, s.cell_eq_read ha]

/-- Settles O4: a word reads every cell, and a canonical list is determined by its cells. -/
theorem canonicalMemoryIsItsReads : Obligations.CanonicalMemoryIsItsReads :=
  fun _ _ => State.mem_eq_of_read_eq

/-- Settles O2: no cell is listed at reset. -/
theorem resetMeetsInvariant : Obligations.ResetMeetsInvariant := reset_wf

/-! Writes that change no cell (R37). -/

/-- A write of what the cell holds changes nothing. -/
theorem State.write_read_self {s : State} (inv : s.Inv) (a : Word) : s.write a (s.read a) = s := by
  have mem : (s.write a (s.read a)).mem = s.mem := by
    refine mem_eq_of_read_eq inv (wf_write inv a _) fun b => ?_
    rcases eq_or_ne b a with rfl | hba
    · exact read_write_same inv b _
    · exact s.read_write_of_ne _ hba
  exact congrArg (fun m => { s with mem := m }) mem

/-- Settles O23: the second of two equal writes writes what the cell holds. -/
theorem rewritingACellIsNoChange : Obligations.RewritingACellIsNoChange := by
  intro s a v inv
  refine ⟨?_, State.write_read_self inv a⟩
  have again := State.write_read_self (State.wf_write inv a v) a
  rwa [State.read_write_same inv] at again

/-! The bulk store (R151). -/

/-- A bulk store changes no cell below or past the bytes. -/
theorem Memory.cell_storeAll_of_outside (m : Memory) (a : Nat) (vs : List Byte) {b : Nat}
    (h : b < a ∨ a + vs.length ≤ b) : Memory.cell (Memory.storeAll m a vs) b = Memory.cell m b := by
  induction vs generalizing m a with
  | nil => rfl
  | cons v vs ih =>
    rw [List.length_cons] at h
    rw [Memory.storeAll, ih _ _ (by omega), cell_store_of_ne m v (by omega)]

/-- A bulk store puts each byte at its own place. -/
theorem Memory.cell_storeAll_getElem {m : Memory} (h : Memory.wf m = true) (a : Nat) (vs : List Byte)
    (fits : a + vs.length ≤ Config.memSize) (i : Nat) (hi : i < vs.length) :
    Memory.cell (Memory.storeAll m a vs) (a + i) = vs[i] := by
  induction vs generalizing m a i with
  | nil => exact absurd hi (Nat.not_lt_zero i)
  | cons v vs ih =>
    rw [List.length_cons] at fits hi
    rw [Memory.storeAll]
    cases i with
    | zero => rw [cell_storeAll_of_outside _ _ _ (by omega), Nat.add_zero, cell_store_same h, List.getElem_cons_zero]
    | succ i =>
      rw [show a + (i + 1) = a + 1 + i by omega, List.getElem_cons_succ]
      exact ih (wf_store h (by omega) v) (a + 1) (by omega) i (by omega)

/-- Settles O5: the load is the bulk store of the image at address 0. -/
theorem bootImageLoadCopiesOrRejects : Obligations.BootImageLoadCopiesOrRejects := by
  intro image s
  refine ⟨fun inv fits => ⟨_, if_neg (Nat.not_lt.mpr fits), rfl, fun i hi => ?_, fun a ha => ?_⟩,
    fun long => if_pos long⟩
  · rw [← State.cell_eq_read _ (lt_of_lt_of_le hi fits)]
    have copied := Memory.cell_storeAll_getElem inv 0 image (by rw [Nat.zero_add]; exact fits) i hi
    rwa [Nat.zero_add] at copied
  · exact Memory.cell_storeAll_of_outside s.mem 0 image (.inr (by rwa [Nat.zero_add]))

/-! A store just after the storing instruction (R42). -/

/-- Settles O24: the byte is stored where the next step fetches, and is read back there. -/
theorem storedByteIsTheNextFetched : Obligations.StoredByteIsTheNextFetched := by
  intro s inv opcode hl notEscape
  have stored := read_of_mem_eq_write (storeRegMem_mem s.pc s .hl .a) inv
  rw [hl] at stored
  refine ⟨_, ?_, storeRegMem_pc s.pc s .hl .a, ?_⟩
  · rw [step_plain (by rw [opcode]; decide), opcode]
    exact Laws.exec_ldAtHlReg s .a
  · rw [step_plain, storeRegMem_pc, stored]
    rw [storeRegMem_pc, stored]
    exact notEscape

end Sys2Proof.Machine

/-!
PROOFS. The outcomes (spec/60_exceptions.md): where an instruction completes, what a step can answer, and the
escape byte's own row. The statements settled here are O14, O15 and O16.
-/
namespace Sys2Proof.Machine

/-! Completion (R131). -/

/-- Every instruction of the families with an operation completes. -/
theorem exec_completes {i : Instr} (s : State) (notEscape : i ≠ .escape)
    (mapped : ∀ op prefixed, i ≠ .unmapped op prefixed) : ∃ t, exec i s = .next t := by
  cases Laws.family i with
  | nop => exact ⟨_, Laws.exec_nop s⟩
  | ldPairImm rr => exact ⟨_, Laws.exec_ldPairImm s rr⟩
  | ld_SP_HL => exact ⟨_, Laws.exec_ld_SP_HL s⟩
  | ldRegReg r r' => exact ⟨_, Laws.exec_ldRegReg s r r'⟩
  | ldRegImm r => exact ⟨_, Laws.exec_ldRegImm s r⟩
  | ldRegAtHl r => exact ⟨_, Laws.exec_ldRegAtHl s r⟩
  | ldAtHlReg r => exact ⟨_, Laws.exec_ldAtHlReg s r⟩
  | ld_atHL_d8 => exact ⟨_, Laws.exec_ld_atHL_d8 s⟩
  | ld_A_atBC => exact ⟨_, Laws.exec_ld_A_atBC s⟩
  | ld_A_atDE => exact ⟨_, Laws.exec_ld_A_atDE s⟩
  | ld_atBC_A => exact ⟨_, Laws.exec_ld_atBC_A s⟩
  | ld_atDE_A => exact ⟨_, Laws.exec_ld_atDE_A s⟩
  | ld_atHLinc_A => exact ⟨_, Laws.exec_ld_atHLinc_A s⟩
  | ld_atHLdec_A => exact ⟨_, Laws.exec_ld_atHLdec_A s⟩
  | ld_atC_A => exact ⟨_, Laws.exec_ld_atC_A s⟩
  | ldh_a8_A => exact ⟨_, Laws.exec_ldh_a8_A s⟩
  | ld_a16_A => exact ⟨_, Laws.exec_ld_a16_A s⟩
  | xorReg r => exact ⟨_, Laws.exec_xorReg s r⟩
  | bitReg n r => exact ⟨_, Laws.exec_bitReg s n r⟩
  | jrCond cc => exact ⟨_, Laws.exec_jrCond s cc⟩
  | incReg r => exact ⟨_, Laws.exec_incReg s r⟩
  | decReg r => exact ⟨_, Laws.exec_decReg s r⟩
  | incPair rr => exact ⟨_, Laws.exec_incPair s rr⟩
  | decPair rr => exact ⟨_, Laws.exec_decPair s rr⟩
  | call_a16 => exact ⟨_, Laws.exec_call_a16 s⟩
  | ret => exact ⟨_, Laws.exec_ret s⟩
  | pushPair rr => exact ⟨_, Laws.exec_pushPair s rr⟩
  | popPair rr => exact ⟨_, Laws.exec_popPair s rr⟩
  | rlReg r => exact ⟨_, Laws.exec_rlReg s r⟩
  | cp_d8 => exact ⟨_, Laws.exec_cp_d8 s⟩
  | addReg r => exact ⟨_, Laws.exec_addReg s r⟩
  | escape => exact absurd rfl notEscape
  | unmapped op prefixed => exact absurd rfl (mapped op prefixed)

/-- No entry of the tables is an unmapped row: such a row would stand at its own byte, which has no entry. -/
theorem decodeEntry_ne_unmapped {op : Byte} {prefixed : Bool} {i : Instr} (h : decodeEntry op prefixed = some i)
    (op' : Byte) (prefixed' : Bool) : i ≠ .unmapped op' prefixed' := by
  rintro rfl
  have entry := decodeOpcode_of_some h
  obtain ⟨rfl, rfl⟩ : op' = op ∧ prefixed' = prefixed := by
    apply opcodeBytes_inj
    rw [← encode_decodeOpcode op prefixed, entry]
    cases prefixed' <;> rfl
  have wf := wf_decodeOpcode op' prefixed'
  rw [entry] at wf
  rw [(isUnmapped_iff op' prefixed').mp wf] at h
  cases h

/-- An entry of the tables completes, but for the escape byte of the plain table. -/
theorem exec_completes_of_decodeEntry {op : Byte} {prefixed : Bool} {i : Instr} (s : State)
    (h : decodeEntry op prefixed = some i) (opcode : prefixed = false → op ≠ Config.escapeByte) :
    ∃ t, exec i s = .next t := by
  refine exec_completes s ?_ (decodeEntry_ne_unmapped h)
  rintro rfl
  obtain ⟨hop, hprefixed⟩ := eq_escapeByte_of_decodeOpcode (decodeOpcode_of_some h)
  exact opcode hprefixed hop

/-- An opcode byte completes where it has an entry, and raises the fault where it has none. -/
theorem exec_decodeOpcode_cases {op : Byte} {prefixed : Bool} (s : State)
    (opcode : prefixed = false → op ≠ Config.escapeByte) :
    (∃ t, exec (decodeOpcode op prefixed) s = .next t) ∨
      (isUnmapped op prefixed = true ∧
        exec (decodeOpcode op prefixed) s = .fault (.unimplementedOpcode s.pc op prefixed)) := by
  obtain ⟨mapped, unmapped⟩ := exec_decodeOpcode s op prefixed
  cases h : decodeEntry op prefixed with
  | none => exact .inr ⟨(isUnmapped_iff op prefixed).mpr h, unmapped h⟩
  | some i =>
    rw [mapped i h]
    exact .inl (exec_completes_of_decodeEntry s h opcode)

/-- A step completes, or raises the fault for the unmapped byte it looked up. -/
theorem step_cases (s : State) :
    (∃ t, step s = .next t) ∨
      (s.read s.pc ≠ Config.escapeByte ∧ isUnmapped (s.read s.pc) false = true ∧
        step s = .fault (.unimplementedOpcode s.pc (s.read s.pc) false)) ∨
      (s.read s.pc = Config.escapeByte ∧ isUnmapped (s.read (s.pc + 1)) true = true ∧
        step s = .fault (.unimplementedOpcode s.pc (s.read (s.pc + 1)) true)) := by
  by_cases escaped : s.read s.pc = Config.escapeByte
  · rw [step_prefixed escaped]
    have byteAfter := exec_decodeOpcode_cases (op := s.read (s.pc + 1)) (prefixed := true) s nofun
    rcases byteAfter with next | ⟨unmapped, fault⟩
    · exact .inl next
    · exact .inr (.inr ⟨escaped, unmapped, fault⟩)
  · rw [step_plain escaped]
    rcases exec_decodeOpcode_cases s (prefixed := false) fun _ => escaped with next | ⟨unmapped, fault⟩
    · exact .inl next
    · exact .inr (.inl ⟨escaped, unmapped, fault⟩)

/-- Settles O14: the rows are compared with the tables, and a step has the outcomes of `step_cases`. -/
theorem unmappedEncodingRaisesTheFault : Obligations.UnmappedEncodingRaisesTheFault := by
  refine ⟨isUnmapped_iff, fun op prefixed s => Laws.exec_unmapped s op prefixed, fun s plain unmapped => ?_,
    fun s escaped unmapped => ?_, fun s r fault => ?_⟩
  · rw [step_plain plain]
    exact (exec_decodeOpcode s _ false).2 ((isUnmapped_iff _ _).mp unmapped)
  · rw [step_prefixed escaped]
    exact (exec_decodeOpcode s _ true).2 ((isUnmapped_iff _ _).mp unmapped)
  · rcases step_cases s with ⟨t, ht⟩ | ⟨plain, unmapped, hr⟩ | ⟨escaped, unmapped, hr⟩
    · rw [ht] at fault
      cases fault
    · rw [hr] at fault
      cases fault
      exact .inl ⟨plain, unmapped, rfl⟩
    · rw [hr] at fault
      cases fault
      exact .inr ⟨escaped, unmapped, rfl⟩

/-- Settles O15: the families with an operation complete, and each fault of a step is at its PC. -/
theorem onlyUnmappedEncodingsStop : Obligations.OnlyUnmappedEncodingsStop := by
  refine ⟨fun i s => exec_completes s, fun s => ?_⟩
  rcases step_cases s with next | ⟨-, -, fault⟩ | ⟨-, -, fault⟩
  · exact .inl next
  · exact .inr ⟨_, _, fault⟩
  · exact .inr ⟨_, _, fault⟩

/-! The escape byte's own row (R51). -/

/-- The entry of the prefixed table by the field patterns of R53: the instruction whose operation
`prefixedOperation` gives. -/
def prefixedInstr (op : Byte) : Option Instr :=
  match Gpr.ofCode (op.extractLsb' 0 3) with
  | none => none
  | some r =>
    if op.extractLsb' 3 5 = 0b00010 then some (rlReg r)
    else if op.extractLsb' 6 2 = 0b01 then some (bitReg (op.extractLsb' 3 3).toFin r)
    else none

/-- The prefixed table is what the field patterns say. -/
theorem decodeEntry_prefixed : ∀ op : Byte, decodeEntry op true = prefixedInstr op := by decide +kernel

/-- The prefixed table and the operation by field patterns agree on every byte: both name a rotation, both the same
bit test, or both nothing. -/
theorem decodeEntry_prefixed_cases (op : Byte) :
    (decodeEntry op true = none ∧ prefixedOperation op = none) ∨
      (∃ r, decodeEntry op true = some (rlReg r) ∧ prefixedOperation op = some (rotateLeft r)) ∨
      ∃ n r, decodeEntry op true = some (bitReg n r) ∧ prefixedOperation op = some (bitTest n r) := by
  rw [decodeEntry_prefixed, prefixedInstr, prefixedOperation]
  cases Gpr.ofCode (op.extractLsb' 0 3) with
  | none => exact .inl ⟨rfl, rfl⟩
  | some r =>
    by_cases rotation : op.extractLsb' 3 5 = 0b00010
    · exact .inr (.inl ⟨r, if_pos rotation, if_pos rotation⟩)
    · by_cases test : op.extractLsb' 6 2 = 0b01
      · exact .inr (.inr ⟨_, r, (if_neg rotation).trans (if_pos test), (if_neg rotation).trans (if_pos test)⟩)
      · exact .inl ⟨(if_neg rotation).trans (if_neg test), (if_neg rotation).trans (if_neg test)⟩

theorem execEscape_of_some {s : State} {operation : Word → State → State}
    (h : prefixedOperation (s.read (s.pc + 1)) = some operation) :
    execEscape s = .next (operation (s.opaddr true) s) := by
  rcases execEscape_cases s with ⟨operation', h', ht⟩ | ⟨h', -⟩
  · cases h.symm.trans h'
    exact ht
  · cases h.symm.trans h'

theorem execEscape_of_none {s : State} (h : prefixedOperation (s.read (s.pc + 1)) = none) :
    execEscape s = .fault (.unimplementedOpcode s.pc (s.read (s.pc + 1)) true) := by
  rcases execEscape_cases s with ⟨operation, h', -⟩ | ⟨-, fault⟩
  · cases h.symm.trans h'
  · exact fault

/-- The escape byte's row executes the byte after it from the prefixed table. -/
theorem exec_escape_eq (s : State) : exec .escape s = exec (decodeOpcode (s.read (s.pc + 1)) true) s := by
  rw [Laws.exec_escape]
  rcases decodeEntry_prefixed_cases (s.read (s.pc + 1)) with
    ⟨entry, operation⟩ | ⟨r, entry, operation⟩ | ⟨n, r, entry, operation⟩
  · rw [execEscape_of_none operation, decodeOpcode_of_none entry, Laws.exec_unmapped]
  · rw [execEscape_of_some operation, decodeOpcode_of_some entry, Laws.exec_rlReg]
  · rw [execEscape_of_some operation, decodeOpcode_of_some entry, Laws.exec_bitReg]

/-- Settles O16: the row executes the byte after it, which has an entry that completes or raises the fault. -/
theorem escapeByteRunsThePrefixedOpcode : Obligations.EscapeByteRunsThePrefixedOpcode := by
  intro s
  rw [exec_escape_eq]
  refine ⟨fun i entry => ?_, (exec_decodeOpcode s _ true).2, step_prefixed⟩
  obtain ⟨t, ht⟩ := exec_completes_of_decodeEntry s entry nofun
  rw [decodeOpcode_of_some entry]
  exact ⟨t, ht, ht⟩

end Sys2Proof.Machine

/-!
PROOFS. The rotation through carry (spec/48_rotate_left.md): the value, and the ring of nine bits that C and the
register make up. The statements settled here are O41 and O42.
-/
namespace Sys2Proof.Machine

/-! The value (R120). -/

/-- The shift leaves bit 0 clear, so the carry that enters there is added. -/
theorem shiftLeft_one_or_ofBool_toNat (v : Byte) (c : Bool) :
    ((v <<< 1) ||| (BitVec.ofBool c).setWidth 8).toNat = (2 * v.toNat + c.toNat) % 256 := by
  have hc : c.toNat < 2 ^ 1 := Bool.toNat_lt c
  have shifted : (v <<< 1).toNat = 2 ^ 1 * (v.toNat % 128) := by
    rw [BitVec.toNat_shiftLeft, Nat.shiftLeft_eq]
    omega
  have carry : ((BitVec.ofBool c).setWidth 8).toNat = c.toNat := by cases c <;> rfl
  rw [BitVec.toNat_or, shifted, carry, ← Nat.two_pow_add_eq_or_of_lt hc]
  omega

/-- Bit 7 is set from 128 upward. -/
theorem getLsbD_seven_iff (v : Byte) : v.getLsbD 7 = true ↔ 128 ≤ v.toNat := by
  rw [BitVec.getLsbD_last v, decide_eq_true_iff]

/-! What a rotation leaves, besides the memory and SP. -/

section
variable (o : Word) (s : State) (r : Gpr)

@[simp] theorem rotateLeft_reg_same :
    (rotateLeft r o s).reg r = ((s.reg r) <<< 1) ||| (BitVec.ofBool s.f.c).setWidth 8 := by
  rw [rotateLeft, State.setPc_reg, State.setFlags_reg, State.setReg_reg_same]

theorem rotateLeft_keepsRegsBut : KeepsRegsBut [r] s (rotateLeft r o s) := by
  intro q hq
  rw [rotateLeft, State.setPc_reg, State.setFlags_reg]
  exact s.setReg_keepsRegsBut r _ q hq

/-- The opcode byte of a prefixed instruction is at PC + 1, so the next instruction is at PC + 2. -/
theorem rotateLeft_opaddr_pc : (rotateLeft r (s.opaddr true) s).pc = s.pc + 2 :=
  (rotateLeft_pc _ s r).trans (add_one_add_one s.pc)

end

/-- Settles O41: the value is the shifted register with the carry added, and of F only Z and C are written. -/
theorem rotateLeftThroughCarry : Obligations.RotateLeftThroughCarry := by
  refine ⟨decodeEntry_rlReg, fun r s => ⟨_, Laws.exec_rlReg s r, ?_, ?_⟩⟩
  · rw [rotateLeft_reg_same, shiftLeft_one_or_ofBool_toNat]
  · rw [rotateLeft_f]
    exact ⟨getLsbD_seven_iff _, beq_iff_eq, Flags.withZC_n _ _ _, Flags.withZC_h _ _ _, rotateLeft_keepsRegsBut _ s r,
      rotateLeft_sp _ s r, rotateLeft_opaddr_pc s r, keepsMemoryBut_of_mem_eq (rotateLeft_mem _ s r) []⟩

/-! Rotation of a word by one bit at a time. -/

section
variable {w : Nat} (hw : 1 < w) (x : BitVec w)
include hw

/-- Bit `i` of a word rotated left by one was the bit below it in the ring of `w` bits. -/
theorem getLsbD_rotateLeft_one {i : Nat} (hi : i < w) :
    (x.rotateLeft 1).getLsbD i = x.getLsbD ((i + (w - 1)) % w) := by
  rw [BitVec.getLsbD_rotateLeft_of_le hw]
  rcases Nat.eq_zero_or_pos i with rfl | hpos
  · rw [Nat.zero_add, Nat.mod_eq_of_lt (by omega)]
    rfl
  · have below : (i + (w - 1)) % w = i - 1 := by
      rw [show i + (w - 1) = i - 1 + w by omega, Nat.add_mod_right, Nat.mod_eq_of_lt (by omega)]
    simp [below, hi, Nat.not_lt.mpr hpos]

/-- After `n` rotations by one, bit `i` is the bit `n` below it in the ring. -/
theorem getLsbD_iterate_rotateLeft_one (n : Nat) {i : Nat} (hi : i < w) :
    ((BitVec.rotateLeft · 1)^[n] x).getLsbD i = x.getLsbD ((i + n * (w - 1)) % w) := by
  induction n generalizing i with
  | zero => simp [Nat.mod_eq_of_lt hi]
  | succ n ih =>
    rw [Function.iterate_succ_apply', getLsbD_rotateLeft_one hw _ hi, ih (Nat.mod_lt _ (Nat.zero_lt_of_lt hi)),
      Nat.mod_add_mod, Nat.succ_mul, Nat.add_assoc, Nat.add_comm (w - 1)]

/-- As many rotations by one as a word has bits restore it. -/
theorem iterate_rotateLeft_one_width : (BitVec.rotateLeft · 1)^[w] x = x := by
  apply BitVec.eq_of_getLsbD_eq
  intro i hi
  rw [getLsbD_iterate_rotateLeft_one hw x w hi, Nat.add_mul_mod_self_left, Nat.mod_eq_of_lt hi]

end

/-! The ring of C and the register (R120). -/

/-- C above the register, the nine bits that `RL r` rotates. -/
def carryRing (r : Gpr) (s : State) : BitVec 9 := BitVec.ofBool s.f.c ++ s.reg r

theorem carryRing_getLsbD (r : Gpr) (s : State) {i : Nat} (hi : i < 8) :
    (carryRing r s).getLsbD i = (s.reg r).getLsbD i := by
  rw [carryRing, BitVec.getLsbD_append, if_pos hi]

theorem carryRing_msb (r : Gpr) (s : State) : (carryRing r s).msb = s.f.c := by
  rw [carryRing, BitVec.msb_append, if_neg one_ne_zero, BitVec.msb_ofBool]

theorem eq_of_carryRing_eq {r : Gpr} {s t : State} (h : carryRing r t = carryRing r s) :
    t.reg r = s.reg r ∧ t.f.c = s.f.c := by
  refine ⟨BitVec.eq_of_getLsbD_eq fun i hi => ?_, ?_⟩
  · rw [← carryRing_getLsbD r t hi, h, carryRing_getLsbD r s hi]
  · rw [← carryRing_msb r t, h, carryRing_msb]

theorem carryRing_rotateLeft (r : Gpr) (o : Word) (s : State) :
    carryRing r (rotateLeft r o s) = (carryRing r s).rotateLeft 1 := by
  rw [carryRing, rotateLeft_reg_same, rotateLeft_f, Flags.withZC_c, carryRing]
  apply BitVec.eq_of_getLsbD_eq
  intro i hi
  rw [getLsbD_rotateLeft_one (by decide) _ hi]
  simp only [BitVec.getLsbD_append]
  interval_cases i <;> simp

/-- Each `RL r` rotates the ring by one bit. -/
theorem execTimes_rlReg (r : Gpr) (n : Nat) (s : State) :
    ∃ t, execTimes n (rlReg r) s = some t ∧ carryRing r t = (BitVec.rotateLeft · 1)^[n] (carryRing r s) := by
  induction n generalizing s with
  | zero => exact ⟨s, rfl, rfl⟩
  | succ n ih =>
    obtain ⟨t, ht, ring⟩ := ih (rotateLeft r (s.opaddr true) s)
    refine ⟨t, ?_, ?_⟩
    · rw [execTimes, Laws.exec_rlReg]
      exact ht
    · rw [ring, carryRing_rotateLeft, Function.iterate_succ_apply]

/-- Settles O42: the ring has nine bits. -/
theorem nineRotationsRestore : Obligations.NineRotationsRestore := by
  intro r s
  obtain ⟨t, ht, ring⟩ := execTimes_rlReg r 9 s
  rw [iterate_rotateLeft_one_width (by decide)] at ring
  exact ⟨t, ht, eq_of_carryRing_eq ring⟩

end Sys2Proof.Machine

/-!
PROOFS. Compare and add (spec/49_compare_add.md): the flags each writes, and what each leaves of the registers.
The statements settled here are O43 and O44.
-/
namespace Sys2Proof.Machine

/-! The flags of an addition (R124). -/

section
variable (a b : Byte)

theorem addFlags_z_iff : (addFlags a b).z = true ↔ BitVec.ofNat 8 (addSum a b) = 0 := beq_iff_eq
@[simp] theorem addFlags_n : (addFlags a b).n = false := rfl
theorem addFlags_h_iff : (addFlags a b).h = true ↔ 15 < a.toNat % 16 + b.toNat % 16 := decide_eq_true_iff
theorem addFlags_c_iff : (addFlags a b).c = true ↔ 255 < a.toNat + b.toNat := decide_eq_true_iff

end

/-! What the two operations leave, besides the memory and SP. -/

section
variable (o : Word) (s : State) (r : Gpr)

@[simp] theorem compareImm_reg (q : Gpr) : (compareImm o s).reg q = s.reg q := by
  rw [compareImm, State.setPc_reg, State.setFlags_reg]

theorem compareImm_z_iff : (compareImm o s).f.z = true ↔ s.read (o + 1) = s.reg .a := by
  rw [compareImm_f, Flags.withZ_z]
  exact beq_iff_eq

@[simp] theorem addA_reg_a : (addA r o s).reg .a = BitVec.ofNat 8 (addSum (s.reg .a) (s.reg r)) := by
  rw [addA, State.setPc_reg, State.setFlags_reg, State.setReg_reg_same]

theorem addA_keepsRegsBut : KeepsRegsBut [.a] s (addA r o s) := by
  intro q hq
  rw [addA, State.setPc_reg, State.setFlags_reg]
  exact s.setReg_keepsRegsBut .a _ q hq

end

/-- Settles O43: Z takes the equality of the immediate with A, and besides it PC alone is written. -/
theorem compareWritesZOnly : Obligations.CompareWritesZOnly := by
  refine ⟨rfl, fun s => ⟨_, Laws.exec_cp_d8 s, compareImm_z_iff _ s, ?_⟩⟩
  rw [compareImm_f]
  exact ⟨Flags.withZ_n _ _, Flags.withZ_h _ _, Flags.withZ_c _ _, fun q _ => compareImm_reg _ s q,
    compareImm_sp _ s, compareImm_pc _ s, keepsMemoryBut_of_mem_eq (compareImm_mem _ s) []⟩

/-- Settles O44: A takes the sum modulo 256, and the flags are those of the sum of the old values. -/
theorem addWritesSumAndFlags : Obligations.AddWritesSumAndFlags := by
  refine ⟨decodeEntry_addReg, fun r s => ⟨_, Laws.exec_addReg s r, ?_⟩⟩
  rw [addA_reg_a, addA_f]
  exact ⟨BitVec.toNat_ofNat _ _, addFlags_z_iff _ _, addFlags_n _ _, addFlags_h_iff _ _, addFlags_c_iff _ _,
    addA_keepsRegsBut _ s r, addA_sp _ s r, addA_pc _ s r, keepsMemoryBut_of_mem_eq (addA_mem _ s r) []⟩

end Sys2Proof.Machine

/-!
PROOFS. A return after a call (spec/46_call_return.md). The statement settled here is O49.
-/
namespace Sys2Proof.Machine

@[simp] theorem callAbs_reg (o : Word) (s : State) (q : Gpr) : (callAbs o s).reg q = s.reg q := by
  rw [callAbs, State.setPc_reg, State.push16_reg]

/-- The return pops the address the call pushed, also where SP wraps. -/
theorem returnFromCall_callAbs_pc {s : State} (inv : s.Inv) (o o' : Word) :
    (returnFromCall o' (callAbs o s)).pc = o + 3 :=
  calc (returnFromCall o' (callAbs o s)).pc
      = (callAbs o s).pop16.1 := rfl
    _ = (s.push16 (o + 3)).pop16.1 := (s.push16 (o + 3)).setPc_pop16_fst _
    _ = o + 3 := State.pop16_push16_fst inv (o + 3)

/-- Settles O49: the word popped is the word pushed, and nothing else was written but SP and the stack. -/
theorem returnAfterCallContinuesAfterIt : Obligations.ReturnAfterCallContinuesAfterIt := by
  intro s inv
  refine ⟨_, _, Laws.exec_call_a16 s, Laws.exec_ret _, returnFromCall_callAbs_pc inv _ _, ?_, fun q _ => ?_, ?_⟩
  · rw [returnFromCall_sp, callAbs_sp, BitVec.sub_add_cancel]
  · rw [returnFromCall_reg, callAbs_reg]
  · rw [returnFromCall_f, callAbs_f]

end Sys2Proof.Machine
